-- ==== Sys2Proof/Word.lean ====
section
/-! DEFINITION. The plain words of the part: bytes, addresses and the numbers of ports, slots, locks, windows, spaces and cache sets. -/

namespace Sys2Proof

/-- One byte of a frame or of memory. -/
abbrev Byte := BitVec 8

/-- The tag of a request (10.1). -/
abbrev Tag := BitVec 8

/-- A port, 0 to 7. -/
abbrev Port := Fin 8

/-- A walk slot, 0 to 3 (R41). -/
abbrev SlotId := Fin 4

/-- A lock, 0 to 31 (R111). -/
abbrev LockId := Fin 32

/-- A window of the window table, 0 to 7 (R67). -/
abbrev WindowId := Fin 8

/-- A logical address, 34 bits (R1); a physical address in a portion is carried with its top two bits 0. -/
abbrev LogicalAddress := BitVec 34

/-- A physical or external address, 32 bits. -/
abbrev PhysAddress := BitVec 32

end Sys2Proof
end

