-- ==== Sys2Proof/Config.lean ====
section
/-! DEFINITION. What is fixed for every BSP-6408 (sizes and limits the rules state) and the free values: the orders inside one event that the spec leaves open. -/

namespace Sys2Proof.Config

/-- Size of the near store, 64 KiB (R73); also the address below which walker reads go to it (R7). -/
def nearSize : Nat := 65536

/-- Size of a page and of the physical block that holds a portion, 16 KiB (R66, R91). -/
def pageSize : Nat := 16384

/-- Window bounds and targets are in units of 64 KiB (R67). -/
def windowUnit : Nat := 65536

/-- The unit of SET_POOL, 1 MiB (R75). -/
def mebibyte : Nat := 1048576

/-- Places in a request queue (R161). -/
def requestQueueLimit : Nat := 8

/-- An engine takes a request only while the completion queue is shorter than this (R88); a queue this long makes a batch due (R138). -/
def batchLimit : Nat := 16

/-- The receiver adds a BUSY record only while the completion queue is shorter than this (R161). -/
def busyLimit : Nat := 24

/-- Lock holdings of a port never exceed this (R112). -/
def holdingsLimit : Nat := 4

/-- Longest payload the receiver lets pass (R159). -/
def payloadLimit : Nat := 272

/-- Operations the pool interface holds in progress (R80). -/
def poolDepth : Nat := 4

/-- Operations the near store carries out at a time (R80). -/
def nearDepth : Nat := 1

/-- FREE VALUE: an order of two actions of one event that the spec leaves open, the n-th one asked for (logs 5 and 6). Nothing is known of it. -/
opaque freeBit : Nat → Bool

/-- FREE VALUE: a choice among several orders of one event that the spec leaves open, the n-th one asked for: which of several engines takes first (log 5), where among the deliveries of a walk its occurrence comes (log 7), how the consumers of a tick follow one another (log 8). Nothing is known of it. -/
opaque freePick : Nat → Nat

end Sys2Proof.Config
end

