-- ==== Sys2Proof/Syntax.lean ====
section
/-! DEFINITION. The commands the part takes: one constructor of Instr for each row of spec/opcode_table.json; and the forms of a request, as a frame carries it (R162) and as the engine reads it (R191). -/

namespace Sys2Proof

/-- A request as the receiver hands it to the request queue: kind code, tag and payload (R162). -/
structure Request where
  kind : Byte
  tag : Tag
  payload : List Byte
  deriving DecidableEq, Repr

/-- A request as the engine reads it: its kind and its operands, each of the width the table of 10.2 gives it (R191). -/
inductive Operands where
  | read (addr : BitVec 40) (len : BitVec 16) (flush : Bool)
  | write (addr : BitVec 40) (flush : Bool) (data : List Byte)
  | probe (addr : BitVec 40)
  | physRead (addr : BitVec 32) (len : BitVec 16)
  | physWrite (addr : BitVec 32) (data : List Byte)
  | lock (n : Byte)
  | unlock (n : Byte)
  | lockWithdraw (n : Byte)
  | lockQuery (n : Byte)
  | setLock (n : Byte) (lease : BitVec 16)
  | setAnchor (space : Byte) (base : BitVec 32) (length : BitVec 16) (mask : BitVec 8)
  | purge (scope space : Byte) (segment page : BitVec 16)
  | setWindow (window kind : Byte) (base limit target : BitVec 16)
  | setPool (size : BitVec 16)
  | setPort (port cls c h : Byte) (t : BitVec 16)
  | fence (set : BitVec 8)
  | unfence
  | portReset (port : Byte)
  | setTimebase (divide : BitVec 16)
  | counters (clear : Byte)
  | alertClear (cause : Byte)
  | deviceReset
  /-- a request that the table of 10.2 does not let through; it completes MALFORMED (R191) -/
  | malformed (kind : Byte)
  deriving DecidableEq, Repr

/-- The commands. A request's command is the arrival of that request at its port (log 1); p is the port, tag the tag the agent chose. -/
inductive Instr where
  -- power (R189)
  | powerOnResetAssert
  | powerOnResetRelease
  | startUpEnd
  -- links and frames (R157 to R161, R144)
  | linkUp (p : Port)
  | linkDown (p : Port)
  | requestAdmission (p : Port) (frame : List Byte)
  | batchAck (p : Port) (tag : Tag)
  -- requests (10.2)
  | malformedRequest (p : Port) (kind : Byte) (tag : Tag) (payload : List Byte)
  | read (p : Port) (tag : Tag) (addr : BitVec 40) (len : BitVec 16) (flags : Byte)
  | write (p : Port) (tag : Tag) (addr : BitVec 40) (flags : Byte) (data : List Byte)
  | probe (p : Port) (tag : Tag) (addr : BitVec 40)
  | physRead (p : Port) (tag : Tag) (addr : BitVec 32) (len : BitVec 16)
  | physWrite (p : Port) (tag : Tag) (addr : BitVec 32) (data : List Byte)
  | lock (p : Port) (tag : Tag) (n : Byte)
  | unlock (p : Port) (tag : Tag) (n : Byte)
  | lockWithdraw (p : Port) (tag : Tag) (n : Byte)
  | lockQuery (p : Port) (tag : Tag) (n : Byte)
  | setLock (p : Port) (tag : Tag) (n : Byte) (lease : BitVec 16)
  | setAnchor (p : Port) (tag : Tag) (space : Byte) (base : BitVec 32) (length : BitVec 16) (mask : BitVec 8)
  | purge (p : Port) (tag : Tag) (scope space : Byte) (segment page : BitVec 16)
  | setWindow (p : Port) (tag : Tag) (window kind : Byte) (base limit target : BitVec 16)
  | setPool (p : Port) (tag : Tag) (size : BitVec 16)
  | setPort (p : Port) (tag : Tag) (port cls c h : Byte) (t : BitVec 16)
  | fence (p : Port) (tag : Tag) (set : BitVec 8)
  | unfence (p : Port) (tag : Tag)
  | portReset (p : Port) (tag : Tag) (port : Byte)
  | setTimebase (p : Port) (tag : Tag) (divide : BitVec 16)
  | counters (p : Port) (tag : Tag) (clear : Byte)
  | alertClear (p : Port) (tag : Tag) (cause : Byte)
  | deviceReset (p : Port) (tag : Tag)
  -- walker (R43, R48, R51, R54)
  | walkRequest (p : Port)
  | offeredLookup (p : Port)
  | offerAnswer (p : Port)
  | descriptorReadComplete (k : SlotId)
  | mapUpdateComplete (k : SlotId)
  -- memory and pool (R100, R77, R83)
  | memoryOperationComplete (p : Port)
  | poolReady
  | byteDisturbance (a : PhysAddress)
  -- time (R174, R124, R142)
  | timebaseTick
  | leaseExpiry (n : LockId)
  | coalescingTimerExpiry (p : Port)
  -- transmitter (R149)
  | transmissionComplete (p : Port)
  | referenceClockPeriod
  deriving DecidableEq, Repr

end Sys2Proof
end

