-- ==== Sys2Proof/Decode.lean ====
section
/-! DEFINITION. Reading and forming request frames: byte order, the frame check (R190), the receiver's reading of a frame (R159), the reading of a payload (R191), the frame content of each request command; and decodeTableWord, which reads nothing because no row of the opcode table has bits. -/

namespace Sys2Proof

/-- The n bytes of a number, most significant byte first (10, Byte order). -/
def beBytes : Nat → Nat → List Byte
  | 0, _ => []
  | n + 1, v => BitVec.ofNat 8 (v / 256 ^ n) :: beBytes n v

/-- The number a run of bytes holds, most significant byte first. -/
def beNat (bytes : List Byte) : Nat := bytes.foldl (fun acc b => acc * 256 + b.toNat) 0

/-- The number in the n bytes of a payload that start at an offset. -/
def payloadField (payload : List Byte) (offset n : Nat) : Nat := beNat ((payload.drop offset).take n)

/-- One byte of a payload. -/
def payloadByte (payload : List Byte) (offset : Nat) : Byte := payload.getD offset 0

/-- One bit fed into the check register (R190). -/
def crcBit (r : BitVec 16) (bit : Bool) : BitVec 16 :=
  let shifted := r <<< 1
  if r.getLsbD 15 != bit then shifted ^^^ 0x1021#16 else shifted

/-- One byte fed from its bit 7 to its bit 0 (R190). -/
def crcByte (r : BitVec 16) (b : Byte) : BitVec 16 :=
  [7, 6, 5, 4, 3, 2, 1, 0].foldl (fun acc i => crcBit acc (b.getLsbD i)) r

/-- The check of a run of bytes: the register starts at 0xFFFF, no final inversion (R190). -/
def frameCheck (bytes : List Byte) : BitVec 16 := bytes.foldl crcByte 0xFFFF#16

/-- Header, payload and check of a frame (10.1). -/
def frameBytes (kind : Byte) (tag : Tag) (payload : List Byte) : List Byte :=
  let body := [kind, tag] ++ beBytes 2 payload.length ++ payload
  body ++ beBytes 2 (frameCheck body).toNat

/-- The frame that carries a request. -/
def Request.frame (r : Request) : List Byte := frameBytes r.kind r.tag r.payload

/-- The receiver's reading of a frame: none where one of the four tests of R159 discards it. -/
def readFrame (bytes : List Byte) : Option Request :=
  let payload := (bytes.drop 4).take (bytes.length - 6)
  if bytes.length < 6 then none
  else if frameCheck (bytes.take (bytes.length - 2)) ≠ BitVec.ofNat 16 (payloadField bytes (bytes.length - 2) 2) then none
  else if payloadField bytes 2 2 ≠ bytes.length - 6 then none
  else if payload.length > Config.payloadLimit then none
  else some { kind := payloadByte bytes 0, tag := payloadByte bytes 1, payload }

/-- The kind code of BATCH_ACK (10.2). -/
def batchAckKind : Byte := 0x50

/-- Step 1 of the examination at taking (R89, R191): the operands of a request whose kind and payload length the table of 10.2 allows. -/
def readOperands (r : Request) : Option Operands :=
  let n := r.payload.length
  let byte := payloadByte r.payload
  let num := payloadField r.payload
  match r.kind.toNat with
  | 0x10 => if n = 8 then some (.read (.ofNat 40 (num 0 5)) (.ofNat 16 (num 5 2)) ((byte 7).getLsbD 0)) else none
  | 0x11 => if 7 ≤ n ∧ n ≤ 262 then some (.write (.ofNat 40 (num 0 5)) ((byte 5).getLsbD 0) (r.payload.drop 6)) else none
  | 0x12 => if n = 5 then some (.probe (.ofNat 40 (num 0 5))) else none
  | 0x18 => if n = 6 then some (.physRead (.ofNat 32 (num 0 4)) (.ofNat 16 (num 4 2))) else none
  | 0x19 => if 5 ≤ n ∧ n ≤ 260 then some (.physWrite (.ofNat 32 (num 0 4)) (r.payload.drop 4)) else none
  | 0x20 => if n = 1 then some (.lock (byte 0)) else none
  | 0x21 => if n = 1 then some (.unlock (byte 0)) else none
  | 0x22 => if n = 1 then some (.lockWithdraw (byte 0)) else none
  | 0x23 => if n = 1 then some (.lockQuery (byte 0)) else none
  | 0x28 => if n = 3 then some (.setLock (byte 0) (.ofNat 16 (num 1 2))) else none
  | 0x30 => if n = 8 then some (.setAnchor (byte 0) (.ofNat 32 (num 1 4)) (.ofNat 16 (num 5 2)) (byte 7)) else none
  | 0x31 => if n = 6 then some (.purge (byte 0) (byte 1) (.ofNat 16 (num 2 2)) (.ofNat 16 (num 4 2))) else none
  | 0x32 => if n = 8 then some (.setWindow (byte 0) (byte 1) (.ofNat 16 (num 2 2)) (.ofNat 16 (num 4 2)) (.ofNat 16 (num 6 2))) else none
  | 0x33 => if n = 2 then some (.setPool (.ofNat 16 (num 0 2))) else none
  | 0x38 => if n = 6 then some (.setPort (byte 0) (byte 1) (byte 2) (byte 3) (.ofNat 16 (num 4 2))) else none
  | 0x39 => if n = 1 then some (.fence (byte 0)) else none
  | 0x3A => if n = 0 then some .unfence else none
  | 0x3B => if n = 1 then some (.portReset (byte 0)) else none
  | 0x40 => if n = 2 then some (.setTimebase (.ofNat 16 (num 0 2))) else none
  | 0x41 => if n = 1 then some (.counters (byte 0)) else none
  | 0x42 => if n = 1 then some (.alertClear (byte 0)) else none
  | 0x4F => if n = 0 then some .deviceReset else none
  | _ => none

/-- The known request kinds that are answered by a DATA frame in every outcome (R89): READ, PROBE, PHYS_READ, LOCK_QUERY, COUNTERS. -/
def answeredByData (kind : Byte) : Bool :=
  kind == 0x10 || kind == 0x12 || kind == 0x18 || kind == 0x23 || kind == 0x41

/-- The request that each request command's arrival carries (10.2); for the other commands none. -/
def Instr.request : Instr → Option (Port × Request)
  | .batchAck p tag => some (p, ⟨batchAckKind, tag, []⟩)
  | .malformedRequest p kind tag payload => some (p, ⟨kind, tag, payload⟩)
  | .read p tag addr len flags => some (p, ⟨0x10, tag, beBytes 5 addr.toNat ++ beBytes 2 len.toNat ++ [flags]⟩)
  | .write p tag addr flags data => some (p, ⟨0x11, tag, beBytes 5 addr.toNat ++ [flags] ++ data⟩)
  | .probe p tag addr => some (p, ⟨0x12, tag, beBytes 5 addr.toNat⟩)
  | .physRead p tag addr len => some (p, ⟨0x18, tag, beBytes 4 addr.toNat ++ beBytes 2 len.toNat⟩)
  | .physWrite p tag addr data => some (p, ⟨0x19, tag, beBytes 4 addr.toNat ++ data⟩)
  | .lock p tag n => some (p, ⟨0x20, tag, [n]⟩)
  | .unlock p tag n => some (p, ⟨0x21, tag, [n]⟩)
  | .lockWithdraw p tag n => some (p, ⟨0x22, tag, [n]⟩)
  | .lockQuery p tag n => some (p, ⟨0x23, tag, [n]⟩)
  | .setLock p tag n lease => some (p, ⟨0x28, tag, [n] ++ beBytes 2 lease.toNat⟩)
  | .setAnchor p tag space base length mask =>
      some (p, ⟨0x30, tag, [space] ++ beBytes 4 base.toNat ++ beBytes 2 length.toNat ++ [mask]⟩)
  | .purge p tag scope space segment page =>
      some (p, ⟨0x31, tag, [scope, space] ++ beBytes 2 segment.toNat ++ beBytes 2 page.toNat⟩)
  | .setWindow p tag window kind base limit target =>
      some (p, ⟨0x32, tag, [window, kind] ++ beBytes 2 base.toNat ++ beBytes 2 limit.toNat ++ beBytes 2 target.toNat⟩)
  | .setPool p tag size => some (p, ⟨0x33, tag, beBytes 2 size.toNat⟩)
  | .setPort p tag port cls c h t => some (p, ⟨0x38, tag, [port, cls, c, h] ++ beBytes 2 t.toNat⟩)
  | .fence p tag set => some (p, ⟨0x39, tag, [set]⟩)
  | .unfence p tag => some (p, ⟨0x3A, tag, []⟩)
  | .portReset p tag port => some (p, ⟨0x3B, tag, [port]⟩)
  | .setTimebase p tag divide => some (p, ⟨0x40, tag, beBytes 2 divide.toNat⟩)
  | .counters p tag clear => some (p, ⟨0x41, tag, [clear]⟩)
  | .alertClear p tag cause => some (p, ⟨0x42, tag, [cause]⟩)
  | .deviceReset p tag => some (p, ⟨0x4F, tag, []⟩)
  | .powerOnResetAssert => none
  | .powerOnResetRelease => none
  | .startUpEnd => none
  | .linkUp _ => none
  | .linkDown _ => none
  | .requestAdmission _ _ => none
  | .walkRequest _ => none
  | .offeredLookup _ => none
  | .offerAnswer _ => none
  | .descriptorReadComplete _ => none
  | .mapUpdateComplete _ => none
  | .memoryOperationComplete _ => none
  | .poolReady => none
  | .byteDisturbance _ => none
  | .timebaseTick => none
  | .leaseExpiry _ => none
  | .coalescingTimerExpiry _ => none
  | .transmissionComplete _ => none
  | .referenceClockPeriod => none

/-- The command that a word of the opcode table spells: none, since no row of the table has bits (log 19). -/
def decodeTableWord (_nbits _w : Nat) : Option Instr := none

end Sys2Proof
end

