-- ==== Sys2Proof/Machine/State.lean ====
section
/-! DEFINITION. The whole state of the part as plain data, every piece of state the spec names, its values after power-on, and State.reset. -/

namespace Sys2Proof.Machine

/-- Why a command could end in a fault: there is no such reason. Every failed check of the part is a status in a reply, and nothing halts it (R19); so no meaning raises a fault. -/
inductive Fault where
  deriving DecidableEq, Repr

/-- Why a command could be refused by the model. -/
inductive Refusal where
  /-- The name the host asks for: raised only by an arm of exec whose command has no meaning yet (none is left). Safe: the model stops where the part goes on. -/
  | notModelled (mnemonic : String)
  deriving DecidableEq, Repr

/-- The link state last reported (R155). -/
inductive Link where
  | down | up
  deriving DecidableEq, Repr

/-- The port state (R155, R156). -/
inductive PortState where
  | down | active | resetting
  deriving DecidableEq, Repr

/-- The class of a port (8.3). -/
inductive PortClass where
  | user | administrative
  deriving DecidableEq, Repr

/-- A legal rights code (R12): NONE, READ, WRITE, READ_WRITE. -/
inductive Rights where
  | noAccess | read | write | readWrite
  deriving DecidableEq, Repr

/-- The statuses of R195. -/
inductive Status where
  | ok | queued | partialDone | malformed | notPermitted | busy
  | spaceDenied | segmentLimit | tableError | segmentAbsent | pageLimit | pageAbsent
  | rights | lockHeld | refused | dataError
  | alreadyHeld | limit | notOwner | notPending
  deriving DecidableEq, Repr

/-- The six alert causes (9.3). -/
inductive AlertCause where
  | tableError | dataError | linkDiscard | overrun | leaseExpired | linkLost
  deriving DecidableEq, Repr

/-- A key: the triple that names one translation (R1). -/
structure Key where
  space : BitVec 3
  segment : BitVec 9
  page : BitVec 8
  deriving DecidableEq, Repr

/-- A translation: what checks 4 to 6 need (R25); guard none is the code 255. -/
structure Translation where
  frame : BitVec 18
  adminRights : Rights
  userRights : Rights
  guard : Option LockId
  modifiedKnown : Bool
  deriving DecidableEq, Repr

/-! ### Replies, records and frames (chapters 5, 7 and 10) -/

/-- What a producer fixes about a DONE record beside its fields: not urgent, urgent as the reply of a flush-flagged WRITE, urgent as the reply that announces a DEVICE_RESET, or urgent as the BUSY reply of a DEVICE_RESET, which announces none (R105, R135, R184; log 27). It is held with the record and never transmitted. -/
inductive DoneMark where
  | plain | flush | deviceReset | deviceBusy
  deriving DecidableEq, Repr

/-- How a fence ended (R134). -/
inductive FenceOutcome where
  | idle | cancelled
  deriving DecidableEq, Repr

/-- A record of a completion queue (R134). -/
inductive Record where
  | done (tag : Tag) (status : Status) (reason : Option Status) (doneCount : Option (BitVec 16))
      (faultAddress : Option (BitVec 40)) (value : Option (BitVec 32)) (mark : DoneMark)
  | grant (lock : LockId) (tag : Tag)
  | leaseLost (lock : LockId)
  | fenceDone (tag : Tag) (outcome : FenceOutcome)
  | alert (cause : AlertCause) (count : BitVec 16) (firstPort : Option Port) (firstAddress : Option (BitVec 32))
  deriving DecidableEq, Repr

/-- The outcome of physical decode (R65). -/
inductive DecodeOutcome where
  | near (a : BitVec 16)
  | external (a : PhysAddress)
  | refused
  deriving DecidableEq, Repr

/-- The body of a DATA frame (R192). -/
inductive DataBody where
  | empty
  | bytes (data : List Byte)
  | probe (translation : Translation) (outcome : DecodeOutcome)
  | lock (owner : Option Port) (pending : BitVec 8) (lease remaining : BitVec 16)
  | counters (values : List (BitVec 32))
  deriving DecidableEq, Repr

/-- A DATA frame (10.3). -/
structure DataFrame where
  tag : Tag
  status : Status
  reason : Option Status := none
  doneCount : Option (BitVec 16) := none
  faultAddress : Option (BitVec 40) := none
  body : DataBody := .empty
  deriving DecidableEq, Repr

/-- A DATA frame in the data slot or waiting for it, with its flush mark (R107, R146). -/
structure SlotFrame where
  frame : DataFrame
  flush : Bool
  deriving DecidableEq, Repr

/-- A frame the transmitter sends (R139, R148). -/
inductive OutFrame where
  | batch (wake : Bool) (records : List Record)
  | data (frame : DataFrame)
  deriving DecidableEq, Repr

/-- The wake state of a reporting unit (R137). -/
inductive WakeState where
  | normal | awaiting
  deriving DecidableEq, Repr

/-- The coalescing timer (R142). -/
inductive Timer where
  | stopped | running (ticks : Nat) | expired
  deriving DecidableEq, Repr

/-! ### The request engine (5.1) -/

/-- The states of a request engine (R87). -/
inductive EngineState where
  | idle | translate | slotWait | walkWait | poolWait | memory | replyWait
  deriving DecidableEq, Repr

/-- The request taken and not yet replied to. -/
structure Current where
  tag : Tag
  ops : Operands
  deriving DecidableEq, Repr

/-- One portion: its first address (a physical one with its top two bits 0) and its length (R91, R92). -/
structure Portion where
  addr : LogicalAddress
  len : Nat
  deriving DecidableEq, Repr, Inhabited

/-- The record of a request engine (5.1). -/
structure Engine where
  state : EngineState
  current : Option Current
  portions : List Portion
  /-- the current portion is the second -/
  second : Bool
  translation : Option Translation
  readData : List Byte
  pendingFrame : Option SlotFrame
  deriving DecidableEq, Repr

/-- The engine after power-on (R86). The spec gives the field current portion no value while there are no portions; the model puts the first (log 32). -/
def Engine.idle : Engine :=
  { state := .idle, current := none, portions := [], second := false, translation := none, readData := [], pendingFrame := none }

/-! ### The port record (8.1) with the port's engine and reporting unit -/

structure PortRec where
  link : Link
  state : PortState
  cls : PortClass
  fenced : Bool
  countThreshold : Nat
  heldThreshold : Nat
  tickInterval : Nat
  requestQueue : List Request
  engine : Engine
  completionQueue : List Record
  dataSlot : Option SlotFrame
  wake : WakeState
  timer : Timer
  /-- none while free -/
  transmitter : Option OutFrame
  requestsAccepted : BitVec 32
  faultedReplies : BitVec 32
  framesDiscarded : BitVec 32
  overruns : BitVec 32
  /-- the last link state reported during start-up (R189, log 17) -/
  startUpLink : Link
  /-- the model's own output: the bytes of the frame last delivered to the link (log 16) -/
  delivered : List Byte
  deriving DecidableEq, Repr

/-- A port after power-on (R155, R136, R86, R133, R137, R142, R146, R148, R161, R176). -/
def PortRec.powerOn (p : Port) : PortRec :=
  { link := .down, state := .down, cls := if p = 0 then .administrative else .user, fenced := false
    countThreshold := 1, heldThreshold := 8, tickInterval := 0
    requestQueue := [], engine := Engine.idle, completionQueue := [], dataSlot := none
    wake := .normal, timer := .stopped, transmitter := none
    requestsAccepted := 0, faultedReplies := 0, framesDiscarded := 0, overruns := 0
    startUpLink := .down, delivered := [] }

/-! ### The translation cache (chapter 2) -/

/-- A valid entry: its key and its translation (2.1). -/
structure CacheEntry where
  key : Key
  translation : Translation
  deriving DecidableEq, Repr

/-- One set: two ways, none when invalid (R21), and the recent-way indicator (R31), false for way 0. -/
structure CacheSet where
  way0 : Option CacheEntry
  way1 : Option CacheEntry
  recent : Bool
  deriving DecidableEq, Repr

/-- A set after power-on (R22). -/
def CacheSet.powerOn : CacheSet := { way0 := none, way1 := none, recent := false }

/-! ### The table walker (chapter 3) -/

/-- The phase of a walk slot (3.1). -/
inductive WalkPhase where
  | free | descriptor | map
  deriving DecidableEq, Repr

/-- A port waiting on a walk slot (3.1). -/
structure Waiter where
  port : Port
  needsModified : Bool
  deriving DecidableEq, Repr

/-- What the walk keeps of the descriptor (R51). -/
structure Carried where
  adminRights : Rights
  userRights : Rights
  guard : Option LockId
  noCache : Bool
  deriving DecidableEq, Repr

/-- A walk slot (3.1), with the table address its phase uses and whether the operation on it waits for READY (R50, R52; log 17). -/
structure WalkSlot where
  phase : WalkPhase
  key : Key
  origin : Port
  tableBase : BitVec 32
  stale : Bool
  setModified : Bool
  waiters : List Waiter
  carried : Carried
  offeredTo : Option Port
  tableAddress : BitVec 32
  waitingReady : Bool
  deriving DecidableEq, Repr

/-- A FREE slot (R41); the fields that have no effect in it are 0 (log 15). -/
def WalkSlot.empty : WalkSlot :=
  { phase := .free, key := ⟨0, 0, 0⟩, origin := 0, tableBase := 0, stale := false, setModified := false, waiters := []
    carried := ⟨.noAccess, .noAccess, none, false⟩, offeredTo := none, tableAddress := 0, waitingReady := false }

/-- The outcome of a lookup (R24); a hit hands over a copy of the translation (R25). -/
inductive Lookup where
  | hit (translation : Translation)
  | miss
  | missNeedingModified
  deriving DecidableEq, Repr

/-- An entry of the walker wait list (R46), with the outcome of the repeated lookup once the cache has taken it (R48). -/
structure WaitEntry where
  port : Port
  key : Key
  needsModified : Bool
  answer : Option Lookup
  deriving DecidableEq, Repr

structure Walker where
  slots : Vector WalkSlot 4
  waitList : List WaitEntry
  pointer : Port
  deriving DecidableEq, Repr

/-- The walker after power-on (R41, R46, R47). -/
def Walker.powerOn : Walker := { slots := Vector.replicate 4 WalkSlot.empty, waitList := [], pointer := 7 }

/-! ### Physical decode, near store, pool and arbiters (chapter 4) -/

/-- The kind of a window (4.2). -/
inductive WindowKind where
  | protect | exclude | relocate
  deriving DecidableEq, Repr

structure Window where
  base : BitVec 16
  limit : BitVec 16
  kind : WindowKind
  target : BitVec 16
  deriving DecidableEq, Repr

/-- A window after power-on (R67). -/
def Window.powerOn : Window := { base := 65535, limit := 0, kind := .exclude, target := 0 }

/-- A byte-addressed store: the bytes that are not 0, by rising address. -/
abbrev Memory := List Host.Cell

inductive PoolState where
  | unset | initializing | ready
  deriving DecidableEq, Repr

/-- The external DRAM and its state (4.6, 4.9): its bytes, and the addresses of the bytes whose check bit fails, rising. -/
structure Pool where
  state : PoolState
  top : Nat
  cells : Memory
  failed : List Nat
  deriving DecidableEq, Repr

/-- The pool after power-on (R74); the contents before the fill are not reachable (R76, log 13). -/
def Pool.powerOn : Pool := { state := .unset, top := 0, cells := [], failed := [] }

/-- Who placed a memory operation (R78). -/
inductive Requester where
  | slot (k : SlotId)
  | engine (p : Port)
  deriving DecidableEq, Repr

/-- The three kinds of memory operation (R78). -/
inductive OpKind where
  | read (len : Nat)
  | write (data : List Byte)
  | mapUpdate (setModified : Bool)
  deriving DecidableEq, Repr

/-- A memory operation; discard marks the operation of a port that has been reset (R82). -/
structure MemOp where
  requester : Requester
  kind : OpKind
  addr : Nat
  discard : Bool
  deriving DecidableEq, Repr

/-- An arbiter (4.7): operations waiting, operations taken and not completed (in the order taken), round-robin pointer. -/
structure Arbiter where
  waiting : List MemOp
  taken : List MemOp
  pointer : Port
  deriving DecidableEq, Repr

/-- An arbiter after power-on (R79, R80). -/
def Arbiter.powerOn : Arbiter := { waiting := [], taken := [], pointer := 7 }

/-! ### The lock unit (chapter 6) -/

/-- A lock (6.1); the pending set holds, for each port, the tag of the LOCK that made it wait. -/
structure Lock where
  owner : Option Port
  pending : Vector (Option Tag) 8
  lease : BitVec 16
  counter : Option Nat
  deriving DecidableEq, Repr

/-- A lock after power-on (R113). -/
def Lock.powerOn : Lock := { owner := none, pending := Vector.replicate 8 none, lease := 0, counter := none }

/-! ### The administration unit -/

/-- An anchor (1.2). -/
structure Anchor where
  base : BitVec 32
  length : Nat
  mask : BitVec 8
  deriving DecidableEq, Repr

/-- An anchor after power-on (R3). -/
def Anchor.powerOn : Anchor := { base := 0, length := 0, mask := 0 }

/-- The fence record (R165). -/
inductive FenceRecord where
  | none
  | pending (owner : Port) (tag : Tag) (set : BitVec 8)
  | held (owner : Port) (tag : Tag) (set : BitVec 8)
  deriving DecidableEq, Repr

/-- An alert latch (R179). -/
structure Latch where
  isSet : Bool
  count : BitVec 16
  firstPort : Option Port
  firstAddress : Option (BitVec 32)
  deriving DecidableEq, Repr

/-- A clear latch (R179, R182). -/
def Latch.clear : Latch := { isSet := false, count := 0, firstPort := none, firstAddress := none }

/-- The device reset state (R183); ANNOUNCED holds the requesting port (R184). -/
inductive DeviceReset where
  | none | announced (p : Port) | draining
  deriving DecidableEq, Repr

/-- Where the part stands to power-on (R189): the reset input held, start-up, in operation. -/
inductive Power where
  | held | startUp | operating
  deriving DecidableEq, Repr

structure State where
  power : Power
  deviceReset : DeviceReset
  ports : Vector PortRec 8
  cache : Vector CacheSet 128
  walker : Walker
  windows : Vector Window 8
  near : Memory
  pool : Pool
  nearArbiter : Arbiter
  poolArbiter : Arbiter
  locks : Vector Lock 32
  anchors : Vector Anchor 8
  fence : FenceRecord
  latches : Vector Latch 6
  divide : BitVec 10
  prescaler : BitVec 10
  cacheHits : BitVec 32
  cacheMisses : BitVec 32
  walksStarted : BitVec 32
  staleWalks : BitVec 32
  leaseExpiries : BitVec 32
  /-- the model's own: the commands that wait, first in, first out -/
  pending : List Instr
  /-- the model's own: how many free values have been used (logs 5 to 8) -/
  freeCount : Nat
  deriving DecidableEq, Repr

/-- Every block at its power-on value, in operation, with a given near store, pool, ports, queue and count of free values: the common part of start-up (R189) and of the end of a device reset (R187). -/
def State.powerOn (near : Memory) (pool : Pool) (ports : Vector PortRec 8) (pending : List Instr) (freeCount : Nat) : State :=
  { power := .operating, deviceReset := .none, ports
    cache := Vector.replicate 128 CacheSet.powerOn, walker := Walker.powerOn
    windows := Vector.replicate 8 Window.powerOn, near, pool
    nearArbiter := Arbiter.powerOn, poolArbiter := Arbiter.powerOn
    locks := Vector.replicate 32 Lock.powerOn, anchors := Vector.replicate 8 Anchor.powerOn
    fence := .none, latches := Vector.replicate 6 Latch.clear
    divide := 49, prescaler := 0
    cacheHits := 0, cacheMisses := 0, walksStarted := 0, staleWalks := 0, leaseExpiries := 0
    pending, freeCount }

/-- All eight ports after power-on (R155). -/
def portsPowerOn : Vector PortRec 8 :=
  #v[.powerOn 0, .powerOn 1, .powerOn 2, .powerOn 3, .powerOn 4, .powerOn 5, .powerOn 6, .powerOn 7]

/-- The part right after power-on, at the end of a start-up in which no link was reported up (R189; log 4). -/
def State.reset : State := State.powerOn [] Pool.powerOn portsPowerOn [] 0

end Sys2Proof.Machine
end

