-- ==== Sys2Proof/Machine/Ops.lean ====
section
/-! DEFINITION. Named operations over the state: ports, locks, slots and latches; ring order; memory in canonical form; records, alert occurrences and free values. -/

namespace Sys2Proof.Machine

/-! ### Numbering -/

/-- The ports in rising order. -/
def allPorts : List Port := [0, 1, 2, 3, 4, 5, 6, 7]

/-- The walk slots in rising order. -/
def allSlots : List SlotId := [0, 1, 2, 3]

/-- The windows in rising order. -/
def allWindows : List WindowId := [0, 1, 2, 3, 4, 5, 6, 7]

/-- The locks in rising order. -/
def allLocks : List LockId :=
  [0, 1, 2, 3, 4, 5, 6, 7, 8, 9, 10, 11, 12, 13, 14, 15, 16, 17, 18, 19, 20, 21, 22, 23, 24, 25, 26, 27, 28, 29, 30, 31]

/-- The round-robin order after port p: p + 1, p + 2 and so on, wrapping from 7 to 0, p itself last (Numbering; R47, R79, R120). -/
def ringAfter (p : Port) : List Port := [p + 1, p + 2, p + 3, p + 4, p + 5, p + 6, p + 7, p]

/-- The number a one-byte operand names, when it is below n. -/
def byteIndex (b : Byte) (n : Nat) : Option (Fin n) := if h : b.toNat < n then some ⟨b.toNat, h⟩ else none

/-! ### Reading and changing parts of the state -/

/-- The record of a port. -/
def State.port (s : State) (p : Port) : PortRec := s.ports[p]

/-- The state with one port's record changed. -/
def State.modPort (s : State) (p : Port) (f : PortRec → PortRec) : State := { s with ports := s.ports.set p (f (s.port p)) }

/-- The state with every port's record changed by the same function of port and record. -/
def State.mapPorts (s : State) (f : Port → PortRec → PortRec) : State :=
  { s with ports := #v[f 0 (s.port 0), f 1 (s.port 1), f 2 (s.port 2), f 3 (s.port 3), f 4 (s.port 4), f 5 (s.port 5), f 6 (s.port 6), f 7 (s.port 7)] }

/-- The state with one port's engine changed. -/
def State.modEngine (s : State) (p : Port) (f : Engine → Engine) : State := s.modPort p fun r => { r with engine := f r.engine }

/-- A walk slot. -/
def State.slot (s : State) (k : SlotId) : WalkSlot := s.walker.slots[k]

/-- The state with one walk slot changed. -/
def State.modSlot (s : State) (k : SlotId) (f : WalkSlot → WalkSlot) : State :=
  { s with walker := { s.walker with slots := s.walker.slots.set k (f (s.slot k)) } }

/-- The state with every walk slot changed by the same function. -/
def State.mapSlots (s : State) (f : WalkSlot → WalkSlot) : State :=
  { s with walker := { s.walker with slots := #v[f (s.slot 0), f (s.slot 1), f (s.slot 2), f (s.slot 3)] } }

/-- The state with the walker wait list changed. -/
def State.setWaitList (s : State) (l : List WaitEntry) : State := { s with walker := { s.walker with waitList := l } }

/-- A lock. -/
def State.lock (s : State) (n : LockId) : Lock := s.locks[n]

/-- The state with one lock replaced. -/
def State.setLock (s : State) (n : LockId) (l : Lock) : State := { s with locks := s.locks.set n l }

/-- The place of a cause's latch. -/
def AlertCause.index : AlertCause → Fin 6
  | .tableError => 0
  | .dataError => 1
  | .linkDiscard => 2
  | .overrun => 3
  | .leaseExpired => 4
  | .linkLost => 5

/-- The alert latch of a cause. -/
def State.latch (s : State) (c : AlertCause) : Latch := s.latches[c.index]

/-- The state with one latch replaced. -/
def State.setLatch (s : State) (c : AlertCause) (l : Latch) : State := { s with latches := s.latches.set c.index l }

/-- The anchor of a space. -/
def State.anchor (s : State) (space : BitVec 3) : Anchor := s.anchors[space.toFin]

/-- Whether a device reset is in progress: the state DRAINING (R183). -/
def State.draining (s : State) : Bool := s.deviceReset == .draining

/-! ### Free values -/

/-- The next free order of two actions (logs 5 and 6). -/
def State.drawBit (s : State) : Bool × State := (Config.freeBit s.freeCount, { s with freeCount := s.freeCount + 1 })

/-- The next free choice among several orders (logs 7 and 8). -/
def State.drawPick (s : State) : Nat × State := (Config.freePick s.freeCount, { s with freeCount := s.freeCount + 1 })

/-- One of several ports, by a free value; no value is used when there is only one (log 5). -/
def State.drawPort (s : State) (first : Port) (others : List Port) : Port × State :=
  if others.isEmpty then (first, s)
  else ((first :: others).getD (s.drawPick.1 % (others.length + 1)) first, s.drawPick.2)

/-! ### Memory in canonical form -/

/-- What an address that is not listed reads as: 0, the value power-on gives the near store (R73) and the fill gives the pool (R76). -/
def blankByte : Byte := 0

/-- The canonical form: addresses strictly rising and no entry equal to what an unlisted address reads as. -/
def Memory.wf : Memory → Bool
  | [] => true
  | [(_, b)] => b != blankByte
  | (a, b) :: (a', b') :: rest => b != blankByte && decide (a < a') && Memory.wf ((a', b') :: rest)

/-- One byte of a store. -/
def Memory.byte : Memory → Nat → Byte
  | [], _ => blankByte
  | (a, b) :: rest, x => if x = a then b else Memory.byte rest x

/-- A store with one byte written, in canonical form again. -/
def Memory.setByte : Memory → Nat → Byte → Memory
  | [], x, v => if v = blankByte then [] else [(x, v)]
  | (a, b) :: rest, x, v =>
      if x < a then (if v = blankByte then (a, b) :: rest else (x, v) :: (a, b) :: rest)
      else if x = a then (if v = blankByte then rest else (a, v) :: rest)
      else (a, b) :: Memory.setByte rest x v

/-- A run of bytes. -/
def Memory.bytes (m : Memory) (a : Nat) : Nat → List Byte
  | 0 => []
  | n + 1 => m.byte a :: Memory.bytes m (a + 1) n

/-- A store with a run of bytes written. -/
def Memory.setBytes (m : Memory) (a : Nat) : List Byte → Memory
  | [] => m
  | b :: rest => Memory.setBytes (m.setByte a b) (a + 1) rest

/-- The failed-byte list with one address added, rising and without repeats. -/
def failByte : List Nat → Nat → List Nat
  | [], x => [x]
  | a :: rest, x => if x < a then x :: a :: rest else if x = a then a :: rest else a :: failByte rest x

/-- The failed-byte list without the addresses of a run that is written (R83). -/
def renewBytes (failed : List Nat) (a n : Nat) : List Nat := failed.filter fun x => x < a || a + n ≤ x

/-- The lowest failed byte of a run (R85). -/
def firstFailed (failed : List Nat) (a n : Nat) : Option Nat := failed.find? fun x => a ≤ x && x < a + n

/-! ### Records and alerts -/

/-- A port's record with one record added at the end of its completion queue (R133). -/
def PortRec.addRecord (r : PortRec) (x : Record) : PortRec := { r with completionQueue := r.completionQueue ++ [x] }

/-- A record added to a port's completion queue (R133). -/
def State.addRecord (s : State) (p : Port) (x : Record) : State := s.modPort p fun r => r.addRecord x

/-- Whether a record is an ALERT of a cause. -/
def Record.isAlertOf (c : AlertCause) : Record → Bool
  | .alert c' _ _ _ => c' == c
  | _ => false

/-- Whether a port receives the ALERT record of a latch that sets: ACTIVE, ADMINISTRATIVE, and none of the cause queued (R181). -/
def PortRec.takesAlert (c : AlertCause) (r : PortRec) : Bool :=
  r.state == .active && r.cls == .administrative && !(r.completionQueue.any (Record.isAlertOf c))

/-- One occurrence of an alert cause, with the port and address it carries (R179 to R181); none is taken while a device reset is in progress. -/
def State.occurrence (s : State) (c : AlertCause) (p : Port) (addr : Option (BitVec 32)) : State :=
  if s.draining then s
  else if (s.latch c).isSet then
    s.setLatch c { s.latch c with count := if (s.latch c).count = 65535 then 65535 else (s.latch c).count + 1 }
  else
    (s.setLatch c { isSet := true, count := 1, firstPort := some p, firstAddress := addr }).mapPorts fun _ r =>
      if r.takesAlert c then r.addRecord (.alert c 1 (some p) addr) else r

/-! ### Replies (5.6) -/

/-- Whether a reply's status counts in faulted replies: every one but OK, QUEUED and PARTIAL (R108). -/
def Status.isFaulted : Status → Bool
  | .ok => false
  | .queued => false
  | .partialDone => false
  | _ => true

/-- The count of faulted replies after a reply with a status is produced (R108). -/
def PortRec.countReply (r : PortRec) (st : Status) : PortRec :=
  if st.isFaulted then { r with faultedReplies := r.faultedReplies + 1 } else r

/-- The reply of the current request by a DONE record: added, counted, the engine IDLE (R105, R108). -/
def PortRec.replyDone (r : PortRec) (tag : Tag) (st : Status) (reason : Option Status := none)
    (doneCount : Option (BitVec 16) := none) (faultAddress : Option (BitVec 40) := none)
    (value : Option (BitVec 32) := none) (mark : DoneMark := .plain) : PortRec :=
  { (r.addRecord (.done tag st reason doneCount faultAddress value mark)).countReply st with engine := Engine.idle }

/-- The reply of the current request by a DATA frame: placed in an empty data slot, counted, the engine IDLE; or held as the pending frame in REPLY_WAIT, in which the model holds no read data beside the frame (R106; log 31). -/
def PortRec.replyData (r : PortRec) (f : DataFrame) (flush : Bool := false) : PortRec :=
  if r.dataSlot.isNone then { r.countReply f.status with dataSlot := some ⟨f, flush⟩, engine := Engine.idle }
  else { r with engine := { r.engine with state := .replyWait, translation := none, readData := [], pendingFrame := some ⟨f, flush⟩ } }

/-- A DONE reply with a status and no optional field. -/
def State.replyStatus (s : State) (p : Port) (tag : Tag) (st : Status) : State := s.modPort p fun r => r.replyDone tag st

/-- The reply to a request that fails an examination at its taking: DATA or DONE by its kind, status alone (R89). -/
def State.replyRefusal (s : State) (p : Port) (kind : Byte) (tag : Tag) (st : Status) : State :=
  s.modPort p fun r => if answeredByData kind then r.replyData { tag, status := st } else r.replyDone tag st

/-! ### Memory operations at their arbiters (4.7) -/

/-- The two targets. -/
inductive Target where
  | near | external
  deriving DecidableEq, Repr

/-- The arbiter of a target. -/
def State.arbiter (s : State) : Target → Arbiter
  | .near => s.nearArbiter
  | .external => s.poolArbiter

/-- The state with one arbiter replaced. -/
def State.setArbiter (s : State) (t : Target) (a : Arbiter) : State :=
  match t with
  | .near => { s with nearArbiter := a }
  | .external => { s with poolArbiter := a }

/-- An operation placed with the arbiter of its target (R78). -/
def State.placeOp (s : State) (t : Target) (op : MemOp) : State :=
  s.setArbiter t { s.arbiter t with waiting := (s.arbiter t).waiting ++ [op] }

/-- Whether a requester has an operation placed or taken (R78). -/
def State.hasOp (s : State) (r : Requester) : Bool :=
  [s.nearArbiter.waiting, s.nearArbiter.taken, s.poolArbiter.waiting, s.poolArbiter.taken].any fun l => l.any fun op => op.requester == r

end Sys2Proof.Machine
end

