-- ==== Sys2Proof/Machine/Operands.lean ====
section
/-! DEFINITION. Operand forms: the fields of a logical address, the range checks at taking, the portions of a request, the descriptor and map entry as the walker reads them, and the codes of operands. -/

namespace Sys2Proof

/-! ### Kinds of request -/

/-- The administrative requests (8.3). -/
def Operands.administrative : Operands → Bool
  | .physRead _ _ => true
  | .physWrite _ _ => true
  | .setLock _ _ => true
  | .setAnchor _ _ _ _ => true
  | .purge _ _ _ _ => true
  | .setWindow _ _ _ _ _ => true
  | .setPool _ => true
  | .setPort _ _ _ _ _ => true
  | .fence _ => true
  | .unfence => true
  | .portReset _ => true
  | .setTimebase _ => true
  | .counters _ => true
  | .alertClear _ => true
  | .deviceReset => true
  | .read _ _ _ => false
  | .write _ _ _ => false
  | .probe _ => false
  | .lock _ => false
  | .unlock _ => false
  | .lockWithdraw _ => false
  | .lockQuery _ => false
  | .malformed _ => false

/-- The access requests that write, and their data (R14). -/
def Operands.writeData : Operands → Option (List Byte)
  | .write _ _ data => some data
  | .physWrite _ data => some data
  | _ => none

/-- Whether a request is one of the two that carry physical addresses (R14). -/
def Operands.physical : Operands → Bool
  | .physRead _ _ => true
  | .physWrite _ _ => true
  | _ => false

/-- The access kind of a lookup: write for WRITE (R24, R94). -/
def Operands.translatesWrite : Operands → Bool
  | .write _ _ _ => true
  | _ => false

/-- The flush flag of a READ (R107). -/
def Operands.readFlush : Operands → Bool
  | .read _ _ flush => flush
  | _ => false

/-- The mark of an access request's DONE record: urgent for a WRITE with its flush flag set (R105). -/
def Operands.doneMark : Operands → Machine.DoneMark
  | .write _ true _ => .flush
  | _ => .plain

end Sys2Proof

namespace Sys2Proof.Machine

/-! ### Addresses and keys (1.1) -/

/-- The key of a logical address: bits 33-31 space, 30-22 segment, 21-14 page (R1). -/
def keyOf (a : LogicalAddress) : Key := { space := a.extractLsb' 31 3, segment := a.extractLsb' 22 9, page := a.extractLsb' 14 8 }

/-- The offset of a logical address, or the physical offset in its 16 KiB block (R1, R92). -/
def offsetOf (a : LogicalAddress) : BitVec 14 := a.extractLsb' 0 14

/-- Whether the 40-bit address field of a request is a logical address: its upper 6 bits are 0 (R1). -/
def isLogical (a : BitVec 40) : Bool := a.extractLsb' 34 6 == 0

/-- Whether a logical request of a length is in range: a logical address, length 1 to 256, last byte within 34 bits (R1, R102, R103). -/
def logicalRunOk (a : BitVec 40) (len : Nat) : Bool :=
  isLogical a && decide (1 ≤ len) && decide (len ≤ 256) && decide (a.toNat + len - 1 ≤ 2 ^ 34 - 1)

/-- Whether a physical request of a length is in range: length 1 to 256, last byte within 32 bits (R92). -/
def physicalRunOk (a : PhysAddress) (len : Nat) : Bool :=
  decide (1 ≤ len) && decide (len ≤ 256) && decide (a.toNat + len - 1 ≤ 2 ^ 32 - 1)

/-- The portions of a run of bytes, divided at the 16 KiB boundary it may cross (R91, R92). -/
def portionsOf (a : LogicalAddress) (len : Nat) : List Portion :=
  let first := Config.pageSize - (offsetOf a).toNat
  if (offsetOf a).toNat + len ≤ Config.pageSize then [⟨a, len⟩]
  else [⟨a, first⟩, ⟨a + BitVec.ofNat 34 first, len - first⟩]

/-- The physical address of an offset in a frame: frame × 16 KiB + offset (R97, R101). -/
def framed (frame : BitVec 18) (offset : BitVec 14) : PhysAddress := frame ++ offset

/-! ### In-memory records (10.6) -/

/-- A rights code; codes 4 to 7 are malformed (R12). -/
def rightsOfCode (c : BitVec 3) : Option Rights :=
  match c.toNat with
  | 0 => some .noAccess
  | 1 => some .read
  | 2 => some .write
  | 3 => some .readWrite
  | _ => none

/-- A guard byte: a lock, none, or malformed (R196). -/
def guardOfCode (b : Byte) : Option (Option LockId) :=
  if h : b.toNat < 32 then some (some ⟨b.toNat, h⟩) else if b = 255 then some none else none

/-- A segment descriptor as the walker reads it (R196): the rights and guard are none where the code is malformed. -/
structure Descriptor where
  mapBase : BitVec 32
  pageCount : Nat
  absent : Bool
  noCache : Bool
  adminRights : Option Rights
  userRights : Option Rights
  guard : Option (Option LockId)
  deriving DecidableEq, Repr

/-- The eight bytes of a descriptor decoded (R196). -/
def readDescriptor (bytes : List Byte) : Descriptor :=
  let word : BitVec 32 := .ofNat 32 (beNat (bytes.take 4))
  let flags := payloadByte bytes 5
  { mapBase := word <<< 2
    pageCount := (payloadByte bytes 4).toNat + 1
    absent := flags.getLsbD 7
    noCache := flags.getLsbD 6
    adminRights := rightsOfCode (flags.extractLsb' 3 3)
    userRights := rightsOfCode (flags.extractLsb' 0 3)
    guard := guardOfCode (payloadByte bytes 6) }

/-- The fault or the fields kept from a descriptor, judged in the order of R8. -/
def judgeDescriptor (d : Descriptor) (page : BitVec 8) : Except Status Carried :=
  match d.adminRights, d.userRights, d.guard with
  | some admin, some user, some guard =>
      if d.absent then .error .segmentAbsent
      else if page.toNat ≥ d.pageCount then .error .pageLimit
      else .ok { adminRights := admin, userRights := user, guard, noCache := d.noCache }
  | _, _, _ => .error .tableError

/-- The resident flag of a page map entry (R197). -/
def entryResident (w : BitVec 32) : Bool := w.getLsbD 31

/-- The frame number of a page map entry (R197). -/
def entryFrame (w : BitVec 32) : BitVec 18 := w.extractLsb' 0 18

/-- The modified flag of a page map entry (R197). -/
def entryModified (w : BitVec 32) : Bool := w.getLsbD 29

/-- The entry as a map update leaves it: a resident one with used set, and modified set when the update carries it (R53, R197). -/
def updatedEntry (w : BitVec 32) (setModified : Bool) : BitVec 32 :=
  if entryResident w then w ||| 0x40000000#32 ||| (if setModified then 0x20000000#32 else 0#32) else w

/-! ### Codes of operands (R191) -/

/-- The kind code of SET_WINDOW. -/
def windowKindOfCode (b : Byte) : Option WindowKind :=
  match b.toNat with
  | 0 => some .protect
  | 1 => some .exclude
  | 2 => some .relocate
  | _ => none

/-- The class code of SET_PORT. -/
def classOfCode (b : Byte) : Option PortClass :=
  match b.toNat with
  | 0 => some .user
  | 1 => some .administrative
  | _ => none

/-- A cause code (R195). -/
def causeOfCode (b : Byte) : Option AlertCause :=
  match b.toNat with
  | 1 => some .tableError
  | 2 => some .dataError
  | 3 => some .linkDiscard
  | 4 => some .overrun
  | 5 => some .leaseExpired
  | 6 => some .linkLost
  | _ => none

/-- Which keys a purge's scope matches, when its operands pass R36: the operands a scope does not use are not examined. -/
def purgeScope (scope space : Byte) (segment page : BitVec 16) : Option (Key → Bool) :=
  let spaceOk := decide (space.toNat ≤ 7)
  let segmentOk := decide (segment.toNat ≤ 511)
  let pageOk := decide (page.toNat ≤ 255)
  let spaceHit := fun k : Key => k.space.toNat == space.toNat
  let segmentHit := fun k : Key => k.segment.toNat == segment.toNat
  let pageHit := fun k : Key => k.page.toNat == page.toNat
  match scope.toNat with
  | 0 => some fun _ => true
  | 1 => if spaceOk then some spaceHit else none
  | 2 => if spaceOk && segmentOk then some fun k => spaceHit k && segmentHit k else none
  | 3 => if spaceOk && segmentOk && pageOk then some fun k => spaceHit k && segmentHit k && pageHit k else none
  | _ => none

/-! ### The current portion of an engine -/

/-- The engine's current portion. -/
def Engine.portion (e : Engine) : Portion := e.portions.getD (if e.second then 1 else 0) default

/-- The length of the first portion: the done count of a PARTIAL reply (R102, R103). -/
def Engine.firstLength (e : Engine) : Nat := (e.portions.getD 0 default).len

/-- The bytes of a write's data that the current portion carries (R103). -/
def Engine.portionData (e : Engine) (data : List Byte) : List Byte :=
  if e.second then data.drop e.firstLength else data.take e.portion.len

end Sys2Proof.Machine
end

