-- ==== Sys2Proof/Machine/Flags.lean ====
section
/-! DEFINITION. Conditions read from the state: rights, urgency and when a batch is due, when a transmitter chooses, when an engine may take a request, when a port is idle for a fence. -/

namespace Sys2Proof.Machine

/-! ### Rights (1.5) -/

/-- Whether a rights code permits a read (false) or a write (true) (R12). -/
def Rights.permits : Rights → Bool → Bool
  | .noAccess, _ => false
  | .read, w => !w
  | .write, w => w
  | .readWrite, _ => true

/-- The rights code check 4 selects for a class (R13). -/
def Translation.rightsFor (t : Translation) : PortClass → Rights
  | .administrative => t.adminRights
  | .user => t.userRights

/-! ### Urgency and batches (7.1 to 7.4) -/

/-- Whether a record is urgent (R135). -/
def Record.urgent : Record → Bool
  | .done _ _ _ _ _ _ mark => mark != .plain
  | .grant _ _ => true
  | .leaseLost _ => true
  | .fenceDone _ _ => true
  | .alert _ _ _ _ => true

/-- Whether a batch is due (R138). -/
def PortRec.batchDue (r : PortRec) : Bool :=
  !r.completionQueue.isEmpty &&
    (r.completionQueue.any Record.urgent
      || (r.wake == .normal && r.countThreshold != 0 && decide (r.countThreshold ≤ r.completionQueue.length))
      || (r.wake == .awaiting && r.heldThreshold != 0 && decide (r.heldThreshold ≤ r.completionQueue.length))
      || r.timer == .expired
      || decide (Config.batchLimit ≤ r.completionQueue.length)
      || r.dataSlot.isSome)

/-- The coalescing timer as a batch or a port reset reloads it (R141, R151). -/
def PortRec.reloadedTimer (r : PortRec) : Timer := if r.tickInterval = 0 then .stopped else .running r.tickInterval

/-- Whether the transmitter has a frame to begin: free, the port ACTIVE, and a batch due or a frame in the data slot (R148). -/
def PortRec.canTransmit (r : PortRec) : Bool :=
  r.transmitter.isNone && r.state == .active && (r.batchDue || r.dataSlot.isSome)

/-- The idle report of the reporting unit (R154). -/
def PortRec.idleReport (r : PortRec) : Bool := r.completionQueue.isEmpty && r.dataSlot.isNone && r.transmitter.isNone

/-- Whether a port is idle for a fence (R167). -/
def PortRec.fenceIdle (r : PortRec) : Bool :=
  r.state == .down || (r.state == .active && r.engine.state == .idle && r.idleReport)

/-! ### Taking a request (R88) -/

/-- Whether a port's engine may take a request now, but for the fence of a device reset: the conditions on the port's own record. -/
def PortRec.mayTake (r : PortRec) : Bool :=
  r.engine.state == .idle && !r.requestQueue.isEmpty && r.state == .active && !r.fenced
    && decide (r.completionQueue.length < Config.batchLimit)

/-- Whether a device reset leaves a port's engine free to take: not in progress, and the port not the one that requested it (R88, R184). -/
def DeviceReset.allows (d : DeviceReset) (p : Port) : Bool :=
  match d with
  | .none => true
  | .announced q => q != p
  | .draining => false

/-- Whether the engine of port p takes its oldest request now (R88). -/
def State.canTake (s : State) (p : Port) : Bool := (s.port p).mayTake && s.deviceReset.allows p

/-- The ports whose engines take a request now. -/
def State.takers (s : State) : List Port := allPorts.filter s.canTake

/-! ### Arbiters (R79, R80) -/

/-- How many operations a target accepts before one completes: the pool only when READY. -/
def State.depth (s : State) : Target → Nat
  | .near => Config.nearDepth
  | .external => if s.pool.state = .ready then Config.poolDepth else 0

/-- Whether an arbiter takes an operation now: one waits, its target can accept one, and no device reset is in progress (R79, R80, R186). -/
def State.arbiterReady (s : State) (t : Target) : Bool :=
  !(s.arbiter t).waiting.isEmpty && decide ((s.arbiter t).taken.length < s.depth t) && !s.draining

end Sys2Proof.Machine
end

