-- ==== Sys2Proof/Machine/Reporting.lean ====
section
/-! DEFINITION. The reporting unit (chapter 7): batch formation, the choice of the transmitter, the data slot, BATCH_ACK, the coalescing timer; each on one port's record. -/

namespace Sys2Proof.Machine

/-- The records the next batch takes: the oldest sixteen, or all of them (R139). -/
def PortRec.batchRecords (r : PortRec) : List Record := r.completionQueue.take Config.batchLimit

/-- Whether the batch that forms carries WAKE (R140). -/
def PortRec.batchWakes (r : PortRec) : Bool :=
  r.wake == .normal || r.batchRecords.any Record.urgent || r.dataSlot.any SlotFrame.flush

/-- The formation of a batch: its records leave the queue, the transmitter begins it, wake state and timer follow (R139 to R141). -/
def PortRec.formBatch (r : PortRec) : PortRec :=
  { r with
    completionQueue := r.completionQueue.drop Config.batchLimit
    transmitter := some (.batch r.batchWakes r.batchRecords)
    wake := if r.batchWakes then .awaiting else r.wake
    timer := r.reloadedTimer }

/-- The pending frame of an engine in REPLY_WAIT placed in the empty data slot (R106). -/
def PortRec.placePending (r : PortRec) : PortRec :=
  match r.dataSlot, r.engine.pendingFrame with
  | none, some f => { r.countReply f.frame.status with dataSlot := some f, engine := Engine.idle }
  | _, _ => r

/-- The transmitter begins its next frame: a due batch, else the data slot's frame (R148). -/
def PortRec.beginFrame (r : PortRec) : PortRec :=
  if r.batchDue then r.formBatch
  else match r.dataSlot with
    | some f => { r with transmitter := some (.data f.frame), dataSlot := none }
    | none => r

/-- The choice of the transmitter, with the placing of a pending frame in the slot it empties (R106, R148). -/
def PortRec.report (r : PortRec) : PortRec := if r.canTransmit then r.beginFrame.placePending else r

/-- Every port's transmitter makes its choice; none while a device reset is in progress (R148, R153). -/
def State.reportAll (s : State) : State := if s.draining then s else s.mapPorts fun _ r => r.report

/-- The transmitters of some ports make their choice (R148). -/
def State.reportOf (s : State) (who : Port → Bool) : State := s.mapPorts fun p r => if who p then r.report else r

/-- A BATCH_ACK taken: the wake state becomes NORMAL (R144). -/
def PortRec.acknowledge (r : PortRec) : PortRec := { r with wake := .normal }

/-- A tick at the coalescing timer (R142). -/
def Timer.tick : Timer → Timer
  | .running n => if n ≤ 1 then .expired else .running (n - 1)
  | .stopped => .stopped
  | .expired => .expired

/-- A tick at every port's coalescing timer (R142). -/
def State.timersTick (s : State) : State := s.mapPorts fun _ r => { r with timer := r.timer.tick }

/-- A tick at the coalescing timers of some ports (R142, R174). -/
def State.timersTickOf (s : State) (who : Port → Bool) : State := s.mapPorts fun p r => if who p then { r with timer := r.timer.tick } else r

/-- The reporting unit's part of a port reset (R151). -/
def PortRec.reportingReset (r : PortRec) : PortRec :=
  { r with completionQueue := [], dataSlot := none, wake := .normal, timer := r.reloadedTimer }

end Sys2Proof.Machine
end

