-- ==== Sys2Proof/Machine/Arbiters.lean ====
section
/-! DEFINITION. The two arbiters (4.7): the choice of the next operation, and the completion of an operation at its target with the data check (4.9) and the map update (R53). -/

namespace Sys2Proof.Machine

/-- The operation an arbiter takes next: of the lowest-numbered walk slot, else of the first port in ring order after the pointer (R79). -/
def Arbiter.choose (a : Arbiter) : Option MemOp :=
  let waits := fun (r : Requester) => a.waiting.find? fun op => op.requester == r
  match allSlots.findSome? fun k => waits (.slot k) with
  | some op => some op
  | none => (ringAfter a.pointer).findSome? fun q => waits (.engine q)

/-- The pointer after an operation is taken: the port whose operation it was; a walk slot's leaves it (R79). -/
def Arbiter.pointerAfter (a : Arbiter) (op : MemOp) : Port :=
  match op.requester with
  | .slot _ => a.pointer
  | .engine p => p

/-- An arbiter takes its next operation, when it can (R79, R80). -/
def State.arbiterTake (s : State) (t : Target) : State :=
  if s.arbiterReady t then
    match (s.arbiter t).choose with
    | some op =>
        s.setArbiter t
          { waiting := (s.arbiter t).waiting.erase op, taken := (s.arbiter t).taken ++ [op], pointer := (s.arbiter t).pointerAfter op }
    | none => s
  else s

/-- Both arbiters take all they can: the near store one operation, the pool up to four (R80). -/
def State.arbitersTake (s : State) : State :=
  ((((s.arbiterTake .near).arbiterTake .external).arbiterTake .external).arbiterTake .external).arbiterTake .external

/-- An order the spec leaves open: the arbiters take what they can now, or leave it to later in the event (logs 5 and 6). No free value is used when nothing can be taken. -/
def State.arbiterRace (s : State) : State :=
  if s.arbiterReady .near || s.arbiterReady .external then
    (if s.drawBit.1 then s.drawBit.2.arbitersTake else s.drawBit.2)
  else s

/-- How many bytes an operation touches (R78). -/
def MemOp.span (op : MemOp) : Nat :=
  match op.kind with
  | .read n => n
  | .write data => data.length
  | .mapUpdate _ => 4

/-- Whether two operations touch a common byte (R81). -/
def MemOp.overlaps (a b : MemOp) : Bool := decide (a.addr < b.addr + b.span) && decide (b.addr < a.addr + a.span)

/-- The operation of a requester in the in-progress list, when no earlier-taken overlapping one holds it back (R81). -/
def completable (r : Requester) : List MemOp → List MemOp → Option MemOp
  | _, [] => none
  | earlier, op :: rest =>
      if op.requester = r then (if earlier.any op.overlaps then none else some op) else completable r (op :: earlier) rest

/-- What an operation returns to its requester (R78). -/
inductive OpResult where
  | bytes (data : List Byte)
  | entry (word : BitVec 32)
  | written
  | dataError (addr : Nat)
  deriving DecidableEq, Repr

/-- The store of a target. -/
def State.store (s : State) : Target → Memory
  | .near => s.near
  | .external => s.pool.cells

/-- The state with a run of bytes of a target written, each with a valid check bit (R73, R83). -/
def State.writeStore (s : State) (t : Target) (addr : Nat) (data : List Byte) : State :=
  match t with
  | .near => { s with near := s.near.setBytes addr data }
  | .external =>
      { s with pool := { s.pool with cells := s.pool.cells.setBytes addr data, failed := renewBytes s.pool.failed addr data.length } }

/-- The lowest failing byte a read of a target meets; the near store has no data check (R73, R83). -/
def State.readFailure (s : State) (t : Target) (addr n : Nat) : Option Nat :=
  match t with
  | .near => none
  | .external => firstFailed s.pool.failed addr n

/-- The word of a page map entry. -/
def State.entryAt (s : State) (t : Target) (addr : Nat) : BitVec 32 := .ofNat 32 (beNat ((s.store t).bytes addr 4))

/-- What an operation does at its target and returns: a read, a write, or a map update (R53, R73, R81, R83). -/
def State.perform (s : State) (t : Target) (op : MemOp) : OpResult × State :=
  match op.kind with
  | .read n =>
      match s.readFailure t op.addr n with
      | some a => (.dataError a, s)
      | none => (.bytes ((s.store t).bytes op.addr n), s)
  | .write data => (.written, s.writeStore t op.addr data)
  | .mapUpdate setModified =>
      match s.readFailure t op.addr 4 with
      | some a => (.dataError a, s)
      | none =>
          let w := s.entryAt t op.addr
          let w' := updatedEntry w setModified
          (.entry w, if w' = w then s else s.writeStore t op.addr (beBytes 4 w'.toNat))

/-- An operation leaves the in-progress list of its target (R80). -/
def State.leaveArbiter (s : State) (t : Target) (op : MemOp) : State :=
  s.setArbiter t { s.arbiter t with taken := (s.arbiter t).taken.erase op }

/-- The completion of a requester's operation at its target: what it returns, the operation, and the state after; none when it has no operation taken that can complete (R81, R82). -/
def State.completeOp (s : State) (r : Requester) : Option (OpResult × MemOp × State) :=
  match completable r [] s.nearArbiter.taken with
  | some op => some ((s.perform .near op).1, op, (s.perform .near op).2.leaveArbiter .near op)
  | none =>
      match completable r [] s.poolArbiter.taken with
      | some op => some ((s.perform .external op).1, op, (s.perform .external op).2.leaveArbiter .external op)
      | none => none

end Sys2Proof.Machine
end

