-- ==== Sys2Proof/Machine/Cache.lean ====
section
/-! DEFINITION. The translation cache (chapter 2): set index, lookup, install and replacement, purge. -/

namespace Sys2Proof.Machine

/-- The set of a key: (page mod 128) XOR (segment mod 128) XOR (16 × space) (R23). -/
def setIndex (k : Key) : Fin 128 :=
  let i : BitVec 7 := k.page.setWidth 7 ^^^ k.segment.setWidth 7 ^^^ (k.space.setWidth 7 <<< 4)
  ⟨i.toNat, i.isLt⟩

/-- Whether a way holds a valid entry of a key (R24). -/
def holdsKey (w : Option CacheEntry) (k : Key) : Bool :=
  match w with
  | some e => e.key == k
  | none => false

/-- The way that holds a key, false for way 0, and the translation it holds (R24). -/
def CacheSet.find (c : CacheSet) (k : Key) : Option (Bool × Translation) :=
  match c.way0, c.way1 with
  | some e0, some e1 => if e0.key = k then some (false, e0.translation) else if e1.key = k then some (true, e1.translation) else none
  | some e0, none => if e0.key = k then some (false, e0.translation) else none
  | none, some e1 => if e1.key = k then some (true, e1.translation) else none
  | none, none => none

/-- The state with one cache set changed. -/
def State.modSet (s : State) (i : Fin 128) (f : CacheSet → CacheSet) : State := { s with cache := s.cache.set i (f s.cache[i]) }

/-- A lookup of a key as a read or a write: the outcome, the recent-way indicator and the counters (R24 to R28). -/
def State.lookup (s : State) (k : Key) (write : Bool) : Lookup × State :=
  let missed : State := { s with cacheMisses := s.cacheMisses + 1 }
  match s.cache[setIndex k].find k with
  | some (way, t) =>
      if write && !t.modifiedKnown then (.missNeedingModified, missed)
      else (.hit t, { s.modSet (setIndex k) (fun c => { c with recent := way }) with cacheHits := s.cacheHits + 1 })
  | none => (if write then .missNeedingModified else .miss, missed)

/-- The way an install takes, false for way 0: the entry of the same key, else the lowest invalid way, else the way not recently used (R30). -/
def CacheSet.wayFor (c : CacheSet) (k : Key) : Bool :=
  if holdsKey c.way0 k then false
  else if holdsKey c.way1 k then true
  else if c.way0.isNone then false
  else if c.way1.isNone then true
  else !c.recent

/-- A set with an entry installed (R30, R31). -/
def CacheSet.install (c : CacheSet) (e : CacheEntry) : CacheSet :=
  if c.wayFor e.key then { c with way1 := some e, recent := true } else { c with way0 := some e, recent := false }

/-- An install (R29, R30). -/
def State.installEntry (s : State) (k : Key) (t : Translation) : State := s.modSet (setIndex k) fun c => c.install ⟨k, t⟩

/-- A way after a purge. -/
def purgeWay (scope : Key → Bool) (w : Option CacheEntry) : Option CacheEntry := w.filter fun e => !scope e.key

/-- A set after a purge; the recent-way indicator stays (R37). -/
def CacheSet.purge (scope : Key → Bool) (c : CacheSet) : CacheSet := { c with way0 := purgeWay scope c.way0, way1 := purgeWay scope c.way1 }

/-- How many entries of a set a purge invalidates (R37). -/
def CacheSet.purged (scope : Key → Bool) (c : CacheSet) : Nat :=
  ([c.way0, c.way1].filter fun w => w.any fun e => scope e.key).length

/-- Every set of the cache changed by the same function. -/
def mapSets (f : CacheSet → CacheSet) (v : Vector CacheSet 128) : Vector CacheSet 128 := ⟨⟨v.toList.map f⟩, by simp⟩

/-- How many valid entries a scope matches (R37). -/
def State.purgeCount (s : State) (scope : Key → Bool) : Nat := (s.cache.toList.map (CacheSet.purged scope)).sum

/-- The purge event: matching entries invalidated, matching busy walk slots marked stale (R37, R38, R59). -/
def State.purge (s : State) (scope : Key → Bool) : State :=
  ({ s with cache := mapSets (CacheSet.purge scope) s.cache } : State).mapSlots fun w =>
    if w.phase != .free && scope w.key then { w with stale := true } else w

end Sys2Proof.Machine
end

