-- ==== Sys2Proof/Machine/Locks.lean ====
section
/-! DEFINITION. The lock unit (chapter 6): holdings, grants, the five lock requests as they are taken, leases, and what a port reset does to the locks. -/

namespace Sys2Proof.Machine

/-- Whether a port owns a lock or waits for it. -/
def Lock.heldBy (l : Lock) (p : Port) : Bool := l.owner == some p || l.pending[p].isSome

/-- A port's holdings: the locks it owns and the locks it waits for (R112). -/
def State.holdings (s : State) (p : Port) : Nat := (allLocks.filter fun n => (s.lock n).heldBy p).length

/-- The lease counter as a grant or the taking of a free lock loads it (R121). -/
def leaseLoad (ms : BitVec 16) : Option Nat := if ms = 0 then none else some (ms.toNat * 1000)

/-- Lock n passes on from the departing owner: to the first pending port in ring order, with its lease loaded and a GRANT record, or it becomes free (R120). -/
def State.passLock (s : State) (n : LockId) (departing : Port) : State :=
  let l := s.lock n
  match (ringAfter departing).find? fun q => l.pending[q].isSome with
  | some q =>
      (s.setLock n { l with owner := some q, pending := l.pending.set q none, counter := leaseLoad l.lease }).addRecord q
        (.grant n (l.pending[q].getD 0))
  | none => s.setLock n { l with owner := none, counter := none }

/-- The lock unit's answer to a guard question; a guard of none passes (R98, R129). -/
def State.guardPasses (s : State) (p : Port) (guard : Option LockId) : Bool :=
  match guard with
  | some n => (s.lock n).owner == some p
  | none => true

/-! ### The lock requests, at their taking -/

/-- LOCK (R114, R115). -/
def State.takeLock (s : State) (p : Port) (tag : Tag) (number : Byte) : State :=
  match byteIndex number 32 with
  | none => s.replyStatus p tag .malformed
  | some n =>
      let l := s.lock n
      if l.heldBy p then s.replyStatus p tag .alreadyHeld
      else if s.holdings p ≥ Config.holdingsLimit then s.replyStatus p tag .limit
      else match l.owner with
        | none => (s.setLock n { l with owner := some p, counter := leaseLoad l.lease }).replyStatus p tag .ok
        | some _ => (s.setLock n { l with pending := l.pending.set p (some tag) }).replyStatus p tag .queued

/-- UNLOCK (R114, R116). -/
def State.takeUnlock (s : State) (p : Port) (tag : Tag) (number : Byte) : State :=
  match byteIndex number 32 with
  | none => s.replyStatus p tag .malformed
  | some n => if (s.lock n).owner = some p then (s.passLock n p).replyStatus p tag .ok else s.replyStatus p tag .notOwner

/-- LOCK_WITHDRAW (R114, R117). -/
def State.takeLockWithdraw (s : State) (p : Port) (tag : Tag) (number : Byte) : State :=
  match byteIndex number 32 with
  | none => s.replyStatus p tag .malformed
  | some n =>
      let l := s.lock n
      if l.pending[p].isSome then (s.setLock n { l with pending := l.pending.set p none }).replyStatus p tag .ok
      else s.replyStatus p tag .notPending

/-- The pending set as a set of port numbers, port q in bit q (R118). -/
def Lock.pendingSet (l : Lock) : BitVec 8 :=
  allPorts.foldl (fun acc q => if l.pending[q].isSome then acc ||| (1#8 <<< q.val) else acc) 0#8

/-- The lease counter in ms, rounded up; 0 for none (R118). -/
def Lock.remaining (l : Lock) : BitVec 16 :=
  match l.counter with
  | some ticks => .ofNat 16 ((ticks + 999) / 1000)
  | none => 0

/-- LOCK_QUERY (R114, R118). -/
def State.takeLockQuery (s : State) (p : Port) (tag : Tag) (number : Byte) : State :=
  match byteIndex number 32 with
  | none => s.modPort p fun r => r.replyData { tag, status := .malformed }
  | some n =>
      let l := s.lock n
      s.modPort p fun r => r.replyData { tag, status := .ok, body := .lock l.owner l.pendingSet l.lease l.remaining }

/-- SET_LOCK (R114, R119). -/
def State.takeSetLock (s : State) (p : Port) (tag : Tag) (number : Byte) (lease : BitVec 16) : State :=
  match byteIndex number 32 with
  | none => s.replyStatus p tag .malformed
  | some n =>
      if lease.toNat > 60000 then s.replyStatus p tag .malformed
      else (s.setLock n { s.lock n with lease }).replyStatus p tag .ok

/-! ### Leases (6.4) -/

/-- A lock with one tick taken on its running lease counter (R123). -/
def Lock.tick (l : Lock) : Lock := { l with counter := l.counter.map (· - 1) }

/-- Every lock changed by the same function. -/
def mapLocks (f : Lock → Lock) (v : Vector Lock 32) : Vector Lock 32 := ⟨⟨v.toList.map f⟩, by simp⟩

/-- The expiry of lock n's lease: LEASE_LOST, the grant or the freeing, the LEASE_EXPIRED occurrence, the count (R124). -/
def State.expireLease (s : State) (n : LockId) : State :=
  match (s.lock n).owner with
  | some p =>
      let t := ((s.addRecord p (.leaseLost n)).passLock n p).occurrence .leaseExpired p (some (.ofNat 32 n.val))
      { t with leaseExpiries := t.leaseExpiries + 1 }
  | none => s

/-- The expiry of lock n at this tick, when its counter has come to 0. -/
def State.expireIfDue (s : State) (n : LockId) : State := if (s.lock n).counter = some 0 then s.expireLease n else s

/-- A tick at the lock unit: every running counter, then the expiries in rising lock number (R123, R124, R128). -/
def State.leaseTick (s : State) : State :=
  allLocks.foldl State.expireIfDue { s with locks := mapLocks Lock.tick s.locks }

/-! ### Port reset (R131) -/

/-- One lock as the reset of port p finds it: released and passed on, or p's pending entry removed. -/
def State.lockLeaves (p : Port) (s : State) (n : LockId) : State :=
  let l := s.lock n
  if l.owner = some p then s.passLock n p
  else if l.pending[p].isSome then s.setLock n { l with pending := l.pending.set p none }
  else s

/-- Every lock port p owns or waits for, in rising lock number (R131). -/
def State.locksLeave (s : State) (p : Port) : State := allLocks.foldl (State.lockLeaves p) s

end Sys2Proof.Machine
end

