-- ==== Sys2Proof/Machine/PhysicalDecode.lean ====
section
/-! DEFINITION. Physical decode (4.1 to 4.3): the window table applied to a physical address, and the simpler decode of walker reads (R7, R50). -/

namespace Sys2Proof.Machine

/-- Whether a window is enabled and covers a physical address (R67). -/
def Window.covers (w : Window) (a : PhysAddress) : Bool :=
  decide (w.base.toNat ≤ w.limit.toNat)
    && decide (w.base.toNat * Config.windowUnit ≤ a.toNat)
    && decide (a.toNat ≤ w.limit.toNat * Config.windowUnit + (Config.windowUnit - 1))

/-- The windows of a kind that cover an address, lowest number first. -/
def State.coveringWindows (s : State) (kind : WindowKind) (a : PhysAddress) : List Window :=
  (allWindows.map fun i => s.windows[i]).filter fun w => w.kind == kind && w.covers a

/-- The external address a RELOCATE window moves an address to (R70, step 3). -/
def Window.relocated (w : Window) (a : PhysAddress) : Nat := w.target.toNat * Config.windowUnit + (a.toNat - w.base.toNat * Config.windowUnit)

/-- The decode of a physical address for a class (R70). -/
def State.decode (s : State) (a : PhysAddress) (cls : PortClass) : DecodeOutcome :=
  if !(s.coveringWindows .exclude a).isEmpty then .refused
  else if !(s.coveringWindows .protect a).isEmpty && cls == .user then .refused
  else match s.coveringWindows .relocate a with
    | w :: _ => if w.relocated a ≥ s.pool.top then .refused else .external (.ofNat 32 (w.relocated a))
    | [] =>
        if a.toNat < Config.nearSize then .near (.ofNat 16 a.toNat)
        else if a.toNat < s.pool.top then .external a
        else .refused

/-- The target of a table address, which may reach 2^32 or more: none outside both targets (R7, R10, R50, R52). -/
def State.walkerTarget (s : State) (addr : Nat) : Option Target :=
  if addr < Config.nearSize then some .near else if addr < s.pool.top then some .external else none

end Sys2Proof.Machine
end

