-- ==== Sys2Proof/Machine/Access.lean ====
section
/-! DEFINITION. Access requests (chapter 5): the portions of a request through checks 1 to 6, issue, the completion of an operation, the replies; and the five access requests at their taking. -/

namespace Sys2Proof.Machine

/-! ### Replies of an access request -/

/-- The reply of an access request, by a DATA frame or a DONE record as its kind has it (R102 to R106). -/
def PortRec.replyAccess (r : PortRec) (c : Current) (st : Status) (reason : Option Status) (doneCount : Option (BitVec 16))
    (faultAddress : Option (BitVec 40)) (body : DataBody) : PortRec :=
  match c.ops.writeData with
  | some _ => r.replyDone c.tag st reason doneCount faultAddress none c.ops.doneMark
  | none => r.replyData { tag := c.tag, status := st, reason, doneCount, faultAddress, body } c.ops.readFlush

/-- The current portion faults, or its read meets a data error: the whole request ends with the status, or PARTIAL at a second portion (R18, R93, R100, R102, R103). A first portion's DATA_ERROR carries no address (R192). -/
def PortRec.faultPortion (r : PortRec) (st : Status) : PortRec :=
  let e := r.engine
  let addr : BitVec 40 := e.portion.addr.setWidth 40
  match e.current with
  | none => r
  | some c =>
      if e.second then
        r.replyAccess c .partialDone (some st) (some (.ofNat 16 e.firstLength)) (some addr) (.bytes e.readData)
      else r.replyAccess c st none none (if st = .dataError then none else some addr) .empty

/-- The current portion of port p faults. -/
def State.faultPortion (s : State) (p : Port) (st : Status) : State := s.modPort p fun r => r.faultPortion st

/-! ### Issue (5.4) -/

/-- The physical address of the current portion: its own for a PHYS_* request, else framed by the translation in use (R97). -/
def Engine.physicalAddress (e : Engine) : PhysAddress :=
  match e.translation with
  | some t => framed t.frame (offsetOf e.portion.addr)
  | none => e.portion.addr.setWidth 32

/-- The decode of the current portion: a PHYS_* portion under the ADMINISTRATIVE class, a translated one under the port's (R65, R97). -/
def State.decodePortion (s : State) (p : Port) : DecodeOutcome :=
  let e := (s.port p).engine
  s.decode e.physicalAddress (if e.translation.isNone then .administrative else (s.port p).cls)

/-- Check 5: asked for a write portion with a translation (R97, R98). -/
def State.guardHolds (s : State) (p : Port) : Bool :=
  let e := (s.port p).engine
  match e.current, e.translation with
  | some c, some t => if c.ops.writeData.isSome then s.guardPasses p t.guard else true
  | _, _ => true

/-- The operation of the current portion: a read of its length, or a write of its bytes of the data (R97, R103). -/
def Engine.operation (e : Engine) (p : Port) (addr : Nat) : MemOp :=
  { requester := .engine p, addr, discard := false
    kind := match e.current.bind fun c => c.ops.writeData with
      | some data => .write (e.portionData data)
      | none => .read e.portion.len }

/-- The engine places the operation of its current portion and enters MEMORY (R97). -/
def State.placePortion (s : State) (p : Port) (t : Target) (addr : Nat) : State :=
  (s.placeOp t ((s.port p).engine.operation p addr)).modEngine p fun e => { e with state := .memory }

/-- The issue of the current portion: checks 5 and 6, then its operation is placed, or it waits for READY (R16, R97). -/
def State.issue (s : State) (p : Port) : State :=
  if !s.guardHolds p then s.faultPortion p .lockHeld
  else match s.decodePortion p with
    | .refused => s.faultPortion p .refused
    | .near a => s.placePortion p .near a.toNat
    | .external a =>
        if s.pool.state = .initializing then s.modEngine p fun e => { e with state := .poolWait }
        else s.placePortion p .external a.toNat

/-! ### Translating a portion (5.3) -/

/-- The reply of a PROBE that passes checks 1 to 4 (R72, R101). -/
def State.replyProbe (s : State) (p : Port) (c : Current) (t : Translation) : State :=
  let outcome := s.decodePortion p
  s.modPort p fun r => r.replyAccess c .ok none none none (.probe t outcome)

/-- The translation is in hand: check 4, then issue, or a PROBE's reply (R96). -/
def State.translated (s : State) (p : Port) (t : Translation) : State :=
  let s' := s.modEngine p fun e => { e with translation := some t }
  match (s.port p).engine.current with
  | none => s'
  | some c =>
      if !(t.rightsFor (s.port p).cls).permits c.ops.translatesWrite then s'.faultPortion p .rights
      else match c.ops with
        | .probe _ => s'.replyProbe p c t
        | _ => s'.issue p

/-- Check 3: the lookup of the current portion's key; on a miss the engine stays in TRANSLATE and has asked the walker (R94, R95). -/
def State.lookupPortion (s : State) (p : Port) : State :=
  let e := (s.port p).engine
  let write := e.current.any fun c => c.ops.translatesWrite
  let found := s.lookup (keyOf e.portion.addr) write
  let asking := found.2.modEngine p fun e => { e with state := .translate }
  match found.1 with
  | .hit t => asking.translated p t
  | .miss => asking
  | .missNeedingModified => asking

/-- The current portion begins: checks 1 and 2 and the lookup for a logical one, the issue for a physical one (R6, R92, R94). -/
def State.startPortion (s : State) (p : Port) : State :=
  let e := (s.port p).engine
  if e.current.any fun c => c.ops.physical then s.issue p
  else
    let k := keyOf e.portion.addr
    let anchor := s.anchor k.space
    if anchor.length = 0 || !anchor.mask.getLsbD p.val then s.faultPortion p .spaceDenied
    else if k.segment.toNat ≥ anchor.length then s.faultPortion p .segmentLimit
    else s.lookupPortion p

/-! ### The completion of an operation (R100) -/

/-- The current portion is done: the second becomes current, or the request ends OK (R93, R100). -/
def State.portionDone (s : State) (p : Port) : State :=
  let e := (s.port p).engine
  match e.current with
  | none => s
  | some c =>
      if !e.second && e.portions.length = 2 then
        (s.modEngine p fun e => { e with second := true, translation := none }).startPortion p
      else s.modPort p fun r => r.replyAccess c .ok none none none (.bytes e.readData)

/-- The engine's operation completes: bytes are held, a data error ends the request (R84, R100). -/
def State.operationDone (s : State) (p : Port) (res : OpResult) : State :=
  match res with
  | .bytes data => (s.modEngine p fun e => { e with readData := e.readData ++ data }).portionDone p
  | .entry _ => s.portionDone p
  | .written => s.portionDone p
  | .dataError _ => s.faultPortion p .dataError

/-! ### The five access requests, at their taking (5.5) -/

/-- An access request begins its first portion. -/
def State.beginAccess (s : State) (p : Port) (tag : Tag) (ops : Operands) (portions : List Portion) : State :=
  (s.modEngine p fun _ => { Engine.idle with state := .translate, current := some ⟨tag, ops⟩, portions }).startPortion p

/-- READ (R91, R102). -/
def State.takeRead (s : State) (p : Port) (tag : Tag) (addr : BitVec 40) (len : BitVec 16) (flush : Bool) : State :=
  if logicalRunOk addr len.toNat then s.beginAccess p tag (.read addr len flush) (portionsOf (addr.setWidth 34) len.toNat)
  else s.replyRefusal p 0x10 tag .malformed

/-- WRITE (R91, R103). -/
def State.takeWrite (s : State) (p : Port) (tag : Tag) (addr : BitVec 40) (flush : Bool) (data : List Byte) : State :=
  if logicalRunOk addr data.length then s.beginAccess p tag (.write addr flush data) (portionsOf (addr.setWidth 34) data.length)
  else s.replyRefusal p 0x11 tag .malformed

/-- PROBE (R1, R91, R101). -/
def State.takeProbe (s : State) (p : Port) (tag : Tag) (addr : BitVec 40) : State :=
  if isLogical addr then s.beginAccess p tag (.probe addr) [⟨addr.setWidth 34, 0⟩] else s.replyRefusal p 0x12 tag .malformed

/-- PHYS_READ (R92, R104). -/
def State.takePhysRead (s : State) (p : Port) (tag : Tag) (addr : PhysAddress) (len : BitVec 16) : State :=
  if physicalRunOk addr len.toNat then s.beginAccess p tag (.physRead addr len) (portionsOf (addr.setWidth 34) len.toNat)
  else s.replyRefusal p 0x18 tag .malformed

/-- PHYS_WRITE (R92, R104). -/
def State.takePhysWrite (s : State) (p : Port) (tag : Tag) (addr : PhysAddress) (data : List Byte) : State :=
  if physicalRunOk addr data.length then s.beginAccess p tag (.physWrite addr data) (portionsOf (addr.setWidth 34) data.length)
  else s.replyRefusal p 0x19 tag .malformed

end Sys2Proof.Machine
end

