-- ==== Sys2Proof/Machine/Walker.lean ====
section
/-! DEFINITION. The table walker (chapter 3): slots given and joined, the wait list and offers, the descriptor and map phases, completion and delivery. -/

namespace Sys2Proof.Machine

/-- How a walk ends: a fault, or a result (R55). -/
abbrev WalkOutcome := Except Status Translation

/-- The lowest busy slot that is not stale and holds a key (R42, R43). -/
def State.walkingSlot (s : State) (k : Key) : Option SlotId :=
  allSlots.find? fun i => (s.slot i).phase != .free && !(s.slot i).stale && (s.slot i).key == k

/-- The lowest FREE slot offered to no port (R43). -/
def State.openSlot (s : State) : Option SlotId :=
  allSlots.find? fun i => (s.slot i).phase == .free && (s.slot i).offeredTo.isNone

/-- A port joins a slot's waiter list (R44). -/
def State.joinSlot (s : State) (i : SlotId) (p : Port) (needsModified : Bool) : State :=
  (s.modSlot i fun w =>
    { w with
      waiters := w.waiters ++ [⟨p, needsModified⟩]
      setModified := w.setModified || (needsModified && w.phase == .descriptor) }).modEngine p fun e => { e with state := .walkWait }

/-! ### Completion and delivery (3.6) -/

/-- A waiter takes the walk's outcome: a fault, a translation, or a repeated lookup (R57). -/
def State.deliver (s : State) (o : WalkOutcome) (w : Waiter) : State :=
  match o with
  | .error st => s.faultPortion w.port st
  | .ok t => if w.needsModified && !t.modifiedKnown then s.lookupPortion w.port else s.translated w.port t

/-- The outcome delivered to every waiter in join order (R56); between two deliveries the arbiters may already take (log 6). -/
def State.deliverAll (o : WalkOutcome) : List Waiter → State → State
  | [], s => s
  | [w], s => s.deliver o w
  | w :: rest, s => State.deliverAll o rest (s.deliver o w).arbiterRace

/-- The TABLE_ERROR occurrence of a walk that ends so (R58). -/
def State.tableErrorOccurrence (s : State) (o : WalkOutcome) (w : WalkSlot) : State :=
  match o with
  | .error .tableError => s.occurrence .tableError w.origin (some w.tableAddress)
  | _ => s

/-- The install of a walk's result, when it is eligible (R29). -/
def State.installResult (s : State) (o : WalkOutcome) (w : WalkSlot) : State :=
  match o with
  | .ok t => if w.stale || w.carried.noCache then s else s.installEntry w.key t
  | .error _ => s

/-- Whether the order of the TABLE_ERROR occurrence and the deliveries can show (log 7). -/
def occurrenceRaces (o : WalkOutcome) (w : WalkSlot) : Bool :=
  match o with
  | .error .tableError => !w.waiters.isEmpty
  | _ => false

/-- The deliveries of a walk with the occurrence after a number of them; a walk that gives an occurrence delivers a fault, which places no operation (R56, R58). -/
def State.reportAfter (s : State) (o : WalkOutcome) (w : WalkSlot) (n : Nat) : State :=
  State.deliverAll o (w.waiters.drop n) ((State.deliverAll o (w.waiters.take n) s).tableErrorOccurrence o w)

/-- The occurrence and the deliveries: before them all, between two of them or after them all, an order the spec leaves open (R56, R58; log 7). -/
def State.reportWalk (s : State) (o : WalkOutcome) (w : WalkSlot) : State :=
  if occurrenceRaces o w then s.drawPick.2.reportAfter o w (s.drawPick.1 % (w.waiters.length + 1))
  else State.deliverAll o w.waiters (s.tableErrorOccurrence o w)

/-- The completion of a walk: install, delivery, the slot FREE (R56, R58, R60). A waiter whose reply is produced at a delivery takes its next request after all of this (log 30). -/
def State.endWalk (s : State) (i : SlotId) (o : WalkOutcome) : State :=
  let w := s.slot i
  let t := (s.installResult o w).reportWalk o w
  ({ t with staleWalks := if w.stale then t.staleWalks + 1 else t.staleWalks } : State).modSlot i fun _ => WalkSlot.empty

/-! ### The two phases (3.4, 3.5) -/

/-- The operation of a walk slot on a table address: an 8-byte read or a map update (R50, R52). -/
def slotOperation (i : SlotId) (w : WalkSlot) : MemOp :=
  { requester := .slot i, addr := w.tableAddress.toNat, discard := false
    kind := if w.phase = .map then .mapUpdate w.setModified else .read 8 }

/-- A phase of a walk begins on a table address: its operation is placed, waits for READY, or the walk ends with TABLE_ERROR (R50, R52, R58). -/
def State.enterPhase (s : State) (i : SlotId) (phase : WalkPhase) (addr : Nat) : State :=
  let s' := s.modSlot i fun w => { w with phase, tableAddress := .ofNat 32 addr }
  match s'.walkerTarget addr with
  | none => s'.endWalk i (.error .tableError)
  | some .near => s'.placeOp .near (slotOperation i (s'.slot i))
  | some .external =>
      if s'.pool.state = .ready then s'.placeOp .external (slotOperation i (s'.slot i))
      else s'.modSlot i fun w => { w with waitingReady := true }

/-- The descriptor address of a walk: table base plus 8 × segment (R7, R50). -/
def WalkSlot.descriptorAddress (w : WalkSlot) : Nat := w.tableBase.toNat + 8 * w.key.segment.toNat

/-- A slot given to a port: the walk begins in DESCRIPTOR with the anchor's table base of this moment (R45). -/
def State.giveSlot (s : State) (i : SlotId) (p : Port) (k : Key) (needsModified : Bool) : State :=
  let given : WalkSlot :=
    { WalkSlot.empty with
      phase := .descriptor, key := k, origin := p, tableBase := (s.anchor k.space).base
      setModified := needsModified, waiters := [⟨p, needsModified⟩] }
  let s' := ({ s with walksStarted := s.walksStarted + 1 } : State).modSlot i fun _ => given
  (s'.modEngine p fun e => { e with state := .walkWait }).enterPhase i .descriptor given.descriptorAddress

/-- The key and need of an engine that has asked the walker: its current portion's, as a write for WRITE (R43). -/
def Engine.asks (e : Engine) : Key × Bool := (keyOf e.portion.addr, e.current.any fun c => c.ops.translatesWrite)

/-- The walker takes the request of port p's engine: join, a free slot, or the wait list (R43 to R46). -/
def State.walkerTakes (s : State) (p : Port) : State :=
  let (k, needsModified) := (s.port p).engine.asks
  match s.walkingSlot k, s.openSlot with
  | some i, _ => s.joinSlot i p needsModified
  | none, some i => s.giveSlot i p k needsModified
  | none, none =>
      (s.setWaitList (s.walker.waitList ++ [⟨p, k, needsModified, none⟩])).modEngine p fun e => { e with state := .slotWait }

/-! ### Offers (3.3) -/

/-- Whether some slot is offered to a port. -/
def State.isOffered (s : State) (p : Port) : Bool := allSlots.any fun i => (s.slot i).offeredTo == some p

/-- The slot offered to a port. -/
def State.offeredSlot (s : State) (p : Port) : Option SlotId := allSlots.find? fun i => (s.slot i).offeredTo == some p

/-- The entry of a port in the walker wait list. -/
def State.waitEntry (s : State) (p : Port) : Option WaitEntry := s.walker.waitList.find? fun e => e.port == p

/-- The port a FREE slot is offered to: the first waiting port without an offer in ring order after the pointer (R47). -/
def State.nextOffered (s : State) : Option Port :=
  (ringAfter s.walker.pointer).find? fun q => (s.waitEntry q).isSome && !s.isOffered q

/-- One slot offered, when it is FREE and offered to none and a port is eligible (R47). -/
def State.offerSlot (s : State) (i : SlotId) : State :=
  if (s.slot i).phase == .free && (s.slot i).offeredTo.isNone then
    match s.nextOffered with
    | some q =>
        let t := s.modSlot i fun w => { w with offeredTo := some q }
        { t with walker := { t.walker with pointer := q } }
    | none => s
  else s

/-- Every FREE slot offered that can be (R47). -/
def State.offerSlots (s : State) : State := allSlots.foldl State.offerSlot s

/-- An offer of a slot ends (R48, R49). -/
def State.withdrawOffer (s : State) (p : Port) : State :=
  s.mapSlots fun w => if w.offeredTo = some p then { w with offeredTo := none } else w

/-- A port's entry leaves the walker wait list. -/
def State.leaveWaitList (s : State) (p : Port) : State := s.setWaitList (s.walker.waitList.filter fun e => e.port != p)

/-- The repeated lookup of an offered port at the cache (R48). -/
def State.repeatLookup (s : State) (p : Port) (e : WaitEntry) : State :=
  let found := s.lookup e.key e.needsModified
  found.2.setWaitList (found.2.walker.waitList.map fun x => if x.port = p then { x with answer := some found.1 } else x)

/-- The walker takes the outcome of an offered port's repeated lookup (R48). -/
def State.answerOffer (s : State) (p : Port) (i : SlotId) (e : WaitEntry) (found : Lookup) : State :=
  let s' := (s.leaveWaitList p).withdrawOffer p
  match found with
  | .hit t => s'.translated p t
  | _ =>
      match s'.walkingSlot e.key with
      | some j => s'.joinSlot j p e.needsModified
      | none => s'.giveSlot i p e.key e.needsModified

/-! ### Completions (R51, R54) -/

/-- A walk's descriptor read completes: it is judged, and the walk ends or enters MAP (R8, R51). -/
def State.descriptorDone (s : State) (i : SlotId) (res : OpResult) : State :=
  match res with
  | .bytes data =>
      let d := readDescriptor data
      match judgeDescriptor d (s.slot i).key.page with
      | .error st => s.endWalk i (.error st)
      | .ok carried =>
          (s.modSlot i fun w => { w with carried }).enterPhase i .map (d.mapBase.toNat + 4 * (s.slot i).key.page.toNat)
  | _ => s.endWalk i (.error .tableError)

/-- The outcome a map update gives its walk (R54). -/
def mapOutcome (w : WalkSlot) (setModified : Bool) (res : OpResult) : WalkOutcome :=
  match res with
  | .entry word =>
      if entryResident word then
        .ok { frame := entryFrame word, adminRights := w.carried.adminRights, userRights := w.carried.userRights
              guard := w.carried.guard, modifiedKnown := entryModified (updatedEntry word setModified) }
      else .error .pageAbsent
  | _ => .error .tableError

/-- Whether an operation is a map update, and with set-modified. -/
def OpKind.mapSets : OpKind → Option Bool
  | .mapUpdate m => some m
  | _ => none

/-- The walker's part of a port reset: out of the wait list, its offer withdrawn, out of every waiter list (R49, R62). -/
def State.walkerLeaves (s : State) (p : Port) : State :=
  ((s.leaveWaitList p).withdrawOffer p).mapSlots fun w => { w with waiters := w.waiters.filter fun x => x.port != p }

end Sys2Proof.Machine
end

