-- ==== Sys2Proof/Machine/Resets.lean ====
section
/-! DEFINITION. Port reset (8.5), the end of a fence, and device reset (9.4): what begins them, what they clear, what ends them. -/

namespace Sys2Proof.Machine

/-! ### Fences (8.4) -/

/-- Whether a port set holds a port: port n in bit n (R191). -/
def inSet (set : BitVec 8) (p : Port) : Bool := set.getLsbD p.val

/-- A fence ends: every fenced flag clear, the record NONE (R168, R169). -/
def State.endFence (s : State) : State := ({ s with fence := .none } : State).mapPorts fun _ r => { r with fenced := false }

/-- The idle test of a PENDING fence: with every port of its set idle, FENCE_DONE IDLE and HELD (R167). -/
def State.fenceTest (s : State) : State :=
  match s.fence with
  | .pending owner tag set =>
      if allPorts.all fun q => !inSet set q || (s.port q).fenceIdle then
        ({ s with fence := .held owner tag set } : State).addRecord owner (.fenceDone tag .idle)
      else s
  | .held _ _ _ => s
  | .none => s

/-- Whether a port owns the fence. -/
def FenceRecord.ownedBy (f : FenceRecord) (p : Port) : Bool :=
  match f with
  | .pending owner _ _ => owner == p
  | .held owner _ _ => owner == p
  | .none => false

/-! ### The beginning of a device reset (R185) -/

/-- Whether an engine waits in MEMORY on a PORT_RESET (R170). -/
def Engine.waitsOnPortReset (e : Engine) : Bool :=
  e.state == .memory && e.current.any fun c => match c.ops with
    | .portReset _ => true
    | _ => false

/-- An engine at the beginning of a device reset: it stands where it is until the blocks return to their power-on values (R86), but that a PORT_RESET it waits on in MEMORY is discarded (R185; log 21). -/
def Engine.abandoned (e : Engine) : Engine := if e.waitsOnPortReset then { e with current := none } else e

/-- One port at the beginning of a device reset: its queues and data slot discarded, its engine abandoned (R86, R153, R162, R185). -/
def PortRec.drained (r : PortRec) : PortRec :=
  { r with requestQueue := [], completionQueue := [], dataSlot := none, engine := r.engine.abandoned }

/-- The device reset begins: DRAINING, every operation not yet taken by an arbiter withdrawn, every port drained (R63, R82, R185). -/
def State.beginDeviceReset (s : State) : State :=
  let t : State :=
    { s with
      deviceReset := .draining
      nearArbiter := { s.nearArbiter with waiting := [] }
      poolArbiter := { s.poolArbiter with waiting := [] } }
  (t.mapPorts fun _ r => r.drained).mapSlots fun w => { w with waitingReady := false }

/-! ### Port reset (R171) -/

/-- An operation with its result marked for discard when it is port p's (R82). -/
def MemOp.discardFor (p : Port) (op : MemOp) : MemOp := if op.requester = .engine p then { op with discard := true } else op

/-- An arbiter with the results of port p's operation marked for discard (R82). -/
def Arbiter.discardFor (a : Arbiter) (p : Port) : Arbiter :=
  { a with waiting := a.waiting.map (MemOp.discardFor p), taken := a.taken.map (MemOp.discardFor p) }

/-- The reset port's own record: RESETTING, request queue and engine cleared, reporting unit reset (R151, R171). -/
def PortRec.beginReset (r : PortRec) : PortRec := { r.reportingReset with state := .resetting, requestQueue := [], engine := Engine.idle }

/-- A port reset's effects on the fence: a fence the port owns ends (R169). -/
def State.fenceLeaves (s : State) (p : Port) : State := if s.fence.ownedBy p then s.endFence else s

/-- The port reset event of port p, block by block (R171), before what a device reset announced for p makes of it. A GRANT that it adds to the queue of the port that sent the PORT_RESET stands before that request's DONE record (R172; log 33). -/
def State.clearPort (s : State) (p : Port) : State :=
  let t := (s.modPort p PortRec.beginReset).walkerLeaves p
  let t : State := { t with nearArbiter := t.nearArbiter.discardFor p, poolArbiter := t.poolArbiter.discardFor p }
  (t.locksLeave p).fenceLeaves p

/-- A port reset of the port that a device reset is announced for begins it, after the port reset's own effects; no transmitter chooses in between, be the cause a PORT_RESET or the loss of the link (R185; log 29). -/
def State.beginIfAnnounced (s : State) (p : Port) : State :=
  if s.deviceReset = .announced p then s.beginDeviceReset else s

/-- The port reset of port p (R171, R185). Where it begins a device reset, that comes before the port's reset is done, so no PORT_RESET is answered for it (R172; log 29). -/
def State.resetPort (s : State) (p : Port) : State := (s.clearPort p).beginIfAnnounced p

/-- The port a PORT_RESET in progress names (R170). -/
def Engine.awaitsReset (e : Engine) (p : Port) : Bool :=
  e.state == .memory && e.current.any fun c => match c.ops with
    | .portReset n => byteIndex n 8 == some p
    | _ => false

/-- The reply of an engine that waits for the reset of port p (R172). -/
def PortRec.resetAnswered (r : PortRec) (p : Port) : PortRec :=
  if r.engine.awaitsReset p then
    match r.engine.current with
    | some c => r.replyDone c.tag .ok
    | none => r
  else r

/-- Port p's reset is done: the port state follows the link, and the waiting PORT_RESETs reply (R172). -/
def State.resetDone (s : State) (p : Port) : State :=
  s.mapPorts fun q r =>
    let r := if q = p then { r with state := if r.link = .up then .active else .down } else r
    r.resetAnswered p

/-- Port p's reset is done when the port is RESETTING, it has no operation outstanding, and no device reset is in progress (R172). -/
def State.finishReset (s : State) (p : Port) : State :=
  if (s.port p).state = .resetting && !s.hasOp (.engine p) && !s.draining then s.resetDone p else s

/-- Every port reset that can be done is done. -/
def State.finishResets (s : State) : State := allPorts.foldl State.finishReset s

/-! ### The end of a device reset (R187) -/

/-- One port at the end of a device reset: power-on values, the link state kept, the port state following it (R155, R187). -/
def PortRec.afterDeviceReset (p : Port) (r : PortRec) : PortRec :=
  { PortRec.powerOn p with
    link := r.link, state := if r.link = .up then .active else .down
    startUpLink := r.startUpLink, delivered := r.delivered }

/-- Every block at its power-on value but the memory contents, the pool state and the links (R187). -/
def State.endDeviceReset (s : State) : State :=
  State.powerOn s.near s.pool (s.mapPorts PortRec.afterDeviceReset).ports s.pending s.freeCount

/-- Whether a device reset has nothing left to wait for: no operation taken and no transmitter busy (R187). -/
def State.drained (s : State) : Bool :=
  s.nearArbiter.taken.isEmpty && s.poolArbiter.taken.isEmpty && allPorts.all fun p => (s.port p).transmitter.isNone

/-- When no taken operation remains at either target, both arbiters hold nothing and their pointers return to port 7 (R82), be a transmitter still busy or not. -/
def State.restArbiters (s : State) : State :=
  if s.nearArbiter.taken.isEmpty && s.poolArbiter.taken.isEmpty then { s with nearArbiter := Arbiter.powerOn, poolArbiter := Arbiter.powerOn } else s

/-- Whether an operation is a walk slot's. -/
def MemOp.ofWalker (op : MemOp) : Bool :=
  match op.requester with
  | .slot _ => true
  | .engine _ => false

/-- Whether a walker operation that an arbiter has taken is outstanding (R63). -/
def State.walkerOutstanding (s : State) : Bool := s.nearArbiter.taken.any MemOp.ofWalker || s.poolArbiter.taken.any MemOp.ofWalker

/-- When no walker operation remains outstanding, the walker has its power-on values, and its two counters are 0 (R63), be another operation or a transmission still outstanding or not. -/
def State.restWalker (s : State) : State :=
  if s.walkerOutstanding then s else { s with walker := Walker.powerOn, walksStarted := 0, staleWalks := 0 }

/-- A device reset in progress ends when it has nothing left to wait for (R187); until then its arbiters and its walker come to rest as soon as they can (R63, R82). -/
def State.tryEndDeviceReset (s : State) : State :=
  if s.draining then (if s.drained then s.endDeviceReset else s.restArbiters.restWalker) else s

end Sys2Proof.Machine
end

