-- ==== Sys2Proof/Machine/Administration.lean ====
section
/-! DEFINITION. The requests the administration unit and the pool interface answer, at their taking: SET_ANCHOR, PURGE, SET_WINDOW, SET_POOL, SET_PORT, FENCE, UNFENCE, PORT_RESET, SET_TIMEBASE, COUNTERS, ALERT_CLEAR, DEVICE_RESET. The class of the port has been examined (R89). -/

namespace Sys2Proof.Machine

/-- Whether SET_ANCHOR's operands are in range (R4). -/
def anchorOperandsOk (space : Byte) (base : BitVec 32) (length : BitVec 16) : Bool :=
  decide (space.toNat ≤ 7) && decide (length.toNat ≤ 512) && decide (base.toNat % 8 = 0)
    && decide (base.toNat + 8 * length.toNat ≤ 2 ^ 32)

/-- SET_ANCHOR (R4, R5, R40). -/
def State.takeSetAnchor (s : State) (p : Port) (tag : Tag) (space : Byte) (base : BitVec 32) (length : BitVec 16) (mask : BitVec 8) : State :=
  match byteIndex space 8 with
  | none => s.replyStatus p tag .malformed
  | some i =>
      if anchorOperandsOk space base length then
        (({ s with anchors := s.anchors.set i { base, length := length.toNat, mask } } : State).purge
          fun k => k.space.toNat == i.val).replyStatus p tag .ok
      else s.replyStatus p tag .malformed

/-- PURGE (R36 to R38): the value is the number of entries invalidated. -/
def State.takePurge (s : State) (p : Port) (tag : Tag) (scope space : Byte) (segment page : BitVec 16) : State :=
  match purgeScope scope space segment page with
  | none => s.replyStatus p tag .malformed
  | some f => (s.purge f).modPort p fun r => r.replyDone tag .ok none none none (some (.ofNat 32 (s.purgeCount f)))

/-- SET_WINDOW (R68, R69). -/
def State.takeSetWindow (s : State) (p : Port) (tag : Tag) (window kind : Byte) (base limit target : BitVec 16) : State :=
  match byteIndex window 8, windowKindOfCode kind with
  | some i, some k =>
      if k = .relocate && decide (base.toNat ≤ limit.toNat) && decide (target.toNat + (limit.toNat - base.toNat) > 65535) then
        s.replyStatus p tag .malformed
      else
        ({ s with windows := s.windows.set i { base, limit, kind := k, target := if k = .relocate then target else 0 } } : State).replyStatus
          p tag .ok
  | _, _ => s.replyStatus p tag .malformed

/-- SET_POOL (R75 to R77): taken in UNSET, the engine holds it in POOL_WAIT until READY. -/
def State.takeSetPool (s : State) (p : Port) (tag : Tag) (size : BitVec 16) : State :=
  if size.toNat = 0 || size.toNat > 4096 then s.replyStatus p tag .malformed
  else if s.pool.state ≠ .unset then s.replyStatus p tag .notPermitted
  else
    ({ s with pool := { s.pool with state := .initializing, top := size.toNat * Config.mebibyte } } : State).modEngine p fun _ =>
      { Engine.idle with state := .poolWait, current := some ⟨tag, .setPool size⟩ }

/-- Whether a port other than n is ADMINISTRATIVE (R163). -/
def State.otherAdministrative (s : State) (n : Port) : Bool := allPorts.any fun q => q != n && (s.port q).cls == .administrative

/-- SET_PORT (R163, R164). -/
def State.takeSetPort (s : State) (p : Port) (tag : Tag) (port cls c h : Byte) (t : BitVec 16) : State :=
  match byteIndex port 8, classOfCode cls with
  | some n, some k =>
      if c.toNat > 16 || h.toNat > 16 || t.toNat > 1023 then s.replyStatus p tag .malformed
      else if k = .user && !s.otherAdministrative n then s.replyStatus p tag .notPermitted
      else
        (s.modPort n fun r =>
          { r with cls := k, countThreshold := c.toNat, heldThreshold := h.toNat, tickInterval := t.toNat }).replyStatus p tag .ok
  | _, _ => s.replyStatus p tag .malformed

/-- FENCE (R166): the idle test of its own event follows when the event settles (R167). -/
def State.takeFence (s : State) (p : Port) (tag : Tag) (set : BitVec 8) : State :=
  if set = 0 then s.replyStatus p tag .malformed
  else if inSet set p then s.replyStatus p tag .notPermitted
  else if s.fence ≠ .none then s.replyStatus p tag .busy
  else
    (({ s with fence := .pending p tag set } : State).mapPorts fun q r => { r with fenced := r.fenced || inSet set q }).replyStatus p tag .ok

/-- UNFENCE (R168). -/
def State.takeUnfence (s : State) (p : Port) (tag : Tag) : State :=
  match s.fence with
  | .none => s.replyStatus p tag .ok
  | .pending owner fenceTag _ => ((s.addRecord owner (.fenceDone fenceTag .cancelled)).endFence).replyStatus p tag .ok
  | .held _ _ _ => s.endFence.replyStatus p tag .ok

/-- PORT_RESET (R170): the reply to a reset that is not done yet waits in MEMORY; where the reset is done at this event, its DONE record follows the GRANT records that the reset adds (R131, R172; log 33). -/
def State.takePortReset (s : State) (p : Port) (tag : Tag) (port : Byte) : State :=
  match byteIndex port 8 with
  | none => s.replyStatus p tag .malformed
  | some n =>
      let waiting := s.modEngine p fun _ => { Engine.idle with state := .memory, current := some ⟨tag, .portReset port⟩ }
      if n = p then s.replyStatus p tag .notPermitted
      else match (s.port n).state with
        | .down => s.replyStatus p tag .ok
        | .active => waiting.resetPort n
        | .resetting => waiting

/-- SET_TIMEBASE (R175). -/
def State.takeSetTimebase (s : State) (p : Port) (tag : Tag) (divide : BitVec 16) : State :=
  if divide.toNat > 1023 then s.replyStatus p tag .malformed
  else ({ s with divide := divide.setWidth 10, prescaler := 0 } : State).replyStatus p tag .ok

/-- The 37 statistics counters in the order of R177. -/
def State.counterValues (s : State) : List (BitVec 32) :=
  (allPorts.flatMap fun q =>
      [(s.port q).requestsAccepted, (s.port q).faultedReplies, (s.port q).framesDiscarded, (s.port q).overruns])
    ++ [s.cacheHits, s.cacheMisses, s.walksStarted, s.staleWalks, s.leaseExpiries]

/-- All 37 counters at 0 (R178). -/
def State.clearCounters (s : State) : State :=
  ({ s with cacheHits := 0, cacheMisses := 0, walksStarted := 0, staleWalks := 0, leaseExpiries := 0 } : State).mapPorts fun _ r =>
    { r with requestsAccepted := 0, faultedReplies := 0, framesDiscarded := 0, overruns := 0 }

/-- COUNTERS (R177, R178). -/
def State.takeCounters (s : State) (p : Port) (tag : Tag) (clear : Byte) : State :=
  if clear.toNat > 1 then s.replyRefusal p 0x41 tag .malformed
  else
    (if clear.toNat = 1 then s.clearCounters else s).modPort p fun r =>
      r.replyData { tag, status := .ok, body := .counters s.counterValues }

/-- ALERT_CLEAR (R182): the value is the count read. -/
def State.takeAlertClear (s : State) (p : Port) (tag : Tag) (cause : Byte) : State :=
  match causeOfCode cause with
  | none => s.replyStatus p tag .malformed
  | some c => (s.setLatch c Latch.clear).modPort p fun r => r.replyDone tag .ok none none none (some ((s.latch c).count.setWidth 32))

/-- DEVICE_RESET (R184). Its DONE record is urgent whether the reset is announced or the answer is BUSY (R105, R135; log 27). -/
def State.takeDeviceReset (s : State) (p : Port) (tag : Tag) : State :=
  match s.deviceReset with
  | .none =>
      ({ s with deviceReset := .announced p } : State).modPort p fun r => r.replyDone tag .ok none none none none .deviceReset
  | .announced _ => s.modPort p fun r => r.replyDone tag .busy none none none none .deviceBusy
  | .draining => s

end Sys2Proof.Machine
end

