-- ==== Sys2Proof/Machine/Requests.lean ====
section
/-! DEFINITION. The taking of a request (R88, R89) and what follows at the same event: the settling of an event, until no engine that may take a request is left, no transmitter has a frame to begin and no arbiter an operation to take. -/

namespace Sys2Proof.Machine

/-- The request's own rule, after the examinations of R89 that every kind shares (R90). -/
def State.carryOut (s : State) (p : Port) (tag : Tag) (ops : Operands) : State :=
  match ops with
  | .read addr len flush => s.takeRead p tag addr len flush
  | .write addr flush data => s.takeWrite p tag addr flush data
  | .probe addr => s.takeProbe p tag addr
  | .physRead addr len => s.takePhysRead p tag addr len
  | .physWrite addr data => s.takePhysWrite p tag addr data
  | .lock n => s.takeLock p tag n
  | .unlock n => s.takeUnlock p tag n
  | .lockWithdraw n => s.takeLockWithdraw p tag n
  | .lockQuery n => s.takeLockQuery p tag n
  | .setLock n lease => s.takeSetLock p tag n lease
  | .setAnchor space base length mask => s.takeSetAnchor p tag space base length mask
  | .purge scope space segment page => s.takePurge p tag scope space segment page
  | .setWindow window kind base limit target => s.takeSetWindow p tag window kind base limit target
  | .setPool size => s.takeSetPool p tag size
  | .setPort port cls c h t => s.takeSetPort p tag port cls c h t
  | .fence set => s.takeFence p tag set
  | .unfence => s.takeUnfence p tag
  | .portReset port => s.takePortReset p tag port
  | .setTimebase divide => s.takeSetTimebase p tag divide
  | .counters clear => s.takeCounters p tag clear
  | .alertClear cause => s.takeAlertClear p tag cause
  | .deviceReset => s.takeDeviceReset p tag
  | .malformed kind => s.replyRefusal p kind tag .malformed

/-- A request examined and carried out by port p's engine: kind and length, class, then its own rule (R89). -/
def State.examine (s : State) (p : Port) (r : Request) : State :=
  match readOperands r with
  | none => s.replyRefusal p r.kind r.tag .malformed
  | some ops =>
      if ops.administrative && (s.port p).cls == .user then s.replyRefusal p r.kind r.tag .notPermitted
      else s.carryOut p r.tag ops

/-- A request as the engine holds it from its taking to its reply (5.1). -/
def currentOf (r : Request) : Current := ⟨r.tag, (readOperands r).getD (.malformed r.kind)⟩

/-- Port p's engine takes its oldest request (R88). -/
def State.takeRequest (s : State) (p : Port) : State :=
  match (s.port p).requestQueue with
  | [] => s
  | r :: rest => (s.modPort p fun x => { x with requestQueue := rest, engine := { Engine.idle with current := some (currentOf r) } }).examine p r

/-! ### What follows at the same event -/

/-- What the administration unit and the walker do at the event they become able to: a device reset ends, port resets are done, freed slots are offered, the idle test of a fence is made (R47, R167, R172, R187). -/
def State.housekeep (s : State) : State :=
  let t := s.tryEndDeviceReset.finishResets
  if t.draining then t else t.offerSlots.fenceTest

/-- The transmitters choose and the arbiters take (R79, R148). -/
def State.dispatchWork (s : State) : State := s.reportAll.arbitersTake

/-- What comes before the next taking. Every transmitter has chosen: what is sent at once (R140) or in a batch of its own (R142) does not wait for a taking, and the model holds to that for the transmitters of every port (log 5). The arbiters take what they can, unless an engine may take a request: then a free value decides whether they take before it (log 5). -/
def State.beforeTaking (s : State) : State := if s.reportAll.takers.isEmpty then s.reportAll.arbitersTake else s.reportAll.arbiterRace

/-- The next taking, when an engine may take a request, and what goes on after it; else the state as it stands (R88). -/
def State.thenTake (goOn : State → State) (t : State) : State :=
  match t.takers with
  | [] => t
  | q :: rest => goOn ((t.drawPort q rest).2.takeRequest (t.drawPort q rest).1)

/-- An event settles: after the event's whole effect (log 30), each engine that may take a request takes it, one after another, and the other blocks work until nothing is left (R88, R138, R148). The number bounds the takings. -/
def State.settle : Nat → State → State
  | 0, s => s.housekeep.dispatchWork
  | n + 1, s => State.thenTake (State.settle n) s.housekeep.beforeTaking

/-- How many requests wait in the request queues: each taking removes one. -/
def State.queuedRequests (s : State) : Nat := (allPorts.map fun p => (s.port p).requestQueue.length).sum

/-- One event of the part: nothing while power-on reset is held or during start-up (R189), else its effect, settled. -/
def State.event (s : State) (effect : State → State) : Host.Outcome State Fault Refusal :=
  if s.power = .operating then .next (State.settle (effect s).queuedRequests (effect s)) else .next s

/-! ### Arrival of a request (8.2) -/

/-- A frame discarded by the receiver of an ACTIVE port for its length or check (R159). -/
def State.discardFrame (s : State) (p : Port) : State :=
  (s.modPort p fun r => { r with framesDiscarded := r.framesDiscarded + 1 }).occurrence .linkDiscard p none

/-- Admission of a request to the request queue (R161). -/
def State.admitRequest (s : State) (p : Port) (r : Request) : State :=
  if (s.port p).requestQueue.length < Config.requestQueueLimit then
    s.modPort p fun x => { x with requestQueue := x.requestQueue ++ [r], requestsAccepted := x.requestsAccepted + 1 }
  else if (s.port p).completionQueue.length < Config.busyLimit then
    s.addRecord p (.done r.tag .busy none none none none .plain)
  else (s.modPort p fun x => { x with overruns := x.overruns + 1 }).occurrence .overrun p none

/-- A BATCH_ACK handed to the reporting unit (R144). -/
def State.takeBatchAck (s : State) (p : Port) : State := s.modPort p PortRec.acknowledge

/-- A frame as the receiver of an ACTIVE port has read it: BATCH_ACK with an empty payload to the reporting unit, every other one offered for admission (R160). -/
def State.acceptFrame (s : State) (p : Port) (r : Request) : State :=
  if r.kind = batchAckKind && r.payload.isEmpty then s.takeBatchAck p else s.admitRequest p r

/-- Whether the receiver of a port examines a frame: the port ACTIVE and no device reset in progress (R156, R159). -/
def State.receives (s : State) (p : Port) : Bool := (s.port p).state == .active && !s.draining

/-- The arrival of a well-framed request: discarded when its payload is too long (R159), else handled by kind. -/
def State.arrive (s : State) (p : Port) (r : Request) : State :=
  if s.receives p then (if r.payload.length > Config.payloadLimit then s.discardFrame p else s.acceptFrame p r) else s

/-- The arrival of the bytes of a frame (R159, R160). -/
def State.arriveBytes (s : State) (p : Port) (bytes : List Byte) : State :=
  if s.receives p then
    match readFrame bytes with
    | some r => s.acceptFrame p r
    | none => s.discardFrame p
  else s

/-- The event of a request command: the arrival of the request it carries (log 1). -/
def State.requestEvent (s : State) (i : Instr) : Host.Outcome State Fault Refusal :=
  match i.request with
  | some (p, r) => s.event fun s => s.arrive p r
  | none => .next s

end Sys2Proof.Machine
end

