-- ==== Sys2Proof/Machine/Arrivals.lean ====
section
/-! DEFINITION. The request commands: each is the arrival of its request at its port. What the request does when the engine takes it is in Access, Locks and Administration (takeRead and the others); the engine takes it at this same event when R88 lets it (log 1). -/

namespace Sys2Proof.Machine

/-- MALFORMED_REQUEST (R89, R191). -/
def execMalformedRequest (p : Port) (kind : Byte) (tag : Tag) (payload : List Byte) (s : State) : Host.Outcome State Fault Refusal :=
  s.requestEvent (.malformedRequest p kind tag payload)

/-- READ (R102): taken by State.takeRead. -/
def execRead (p : Port) (tag : Tag) (addr : BitVec 40) (len : BitVec 16) (flags : Byte) (s : State) : Host.Outcome State Fault Refusal :=
  s.requestEvent (.read p tag addr len flags)

/-- WRITE (R103): taken by State.takeWrite. -/
def execWrite (p : Port) (tag : Tag) (addr : BitVec 40) (flags : Byte) (data : List Byte) (s : State) : Host.Outcome State Fault Refusal :=
  s.requestEvent (.write p tag addr flags data)

/-- PROBE (R101): taken by State.takeProbe. -/
def execProbe (p : Port) (tag : Tag) (addr : BitVec 40) (s : State) : Host.Outcome State Fault Refusal :=
  s.requestEvent (.probe p tag addr)

/-- PHYS_READ (R104): taken by State.takePhysRead. -/
def execPhysRead (p : Port) (tag : Tag) (addr : BitVec 32) (len : BitVec 16) (s : State) : Host.Outcome State Fault Refusal :=
  s.requestEvent (.physRead p tag addr len)

/-- PHYS_WRITE (R104): taken by State.takePhysWrite. -/
def execPhysWrite (p : Port) (tag : Tag) (addr : BitVec 32) (data : List Byte) (s : State) : Host.Outcome State Fault Refusal :=
  s.requestEvent (.physWrite p tag addr data)

/-- LOCK (R115): taken by State.takeLock. -/
def execLock (p : Port) (tag : Tag) (n : Byte) (s : State) : Host.Outcome State Fault Refusal := s.requestEvent (.lock p tag n)

/-- UNLOCK (R116): taken by State.takeUnlock. -/
def execUnlock (p : Port) (tag : Tag) (n : Byte) (s : State) : Host.Outcome State Fault Refusal := s.requestEvent (.unlock p tag n)

/-- LOCK_WITHDRAW (R117): taken by State.takeLockWithdraw. -/
def execLockWithdraw (p : Port) (tag : Tag) (n : Byte) (s : State) : Host.Outcome State Fault Refusal := s.requestEvent (.lockWithdraw p tag n)

/-- LOCK_QUERY (R118): taken by State.takeLockQuery. -/
def execLockQuery (p : Port) (tag : Tag) (n : Byte) (s : State) : Host.Outcome State Fault Refusal := s.requestEvent (.lockQuery p tag n)

/-- SET_LOCK (R119): taken by State.takeSetLock. -/
def execSetLock (p : Port) (tag : Tag) (n : Byte) (lease : BitVec 16) (s : State) : Host.Outcome State Fault Refusal :=
  s.requestEvent (.setLock p tag n lease)

/-- SET_ANCHOR (R4, R5): taken by State.takeSetAnchor. -/
def execSetAnchor (p : Port) (tag : Tag) (space : Byte) (base : BitVec 32) (length : BitVec 16) (mask : BitVec 8) (s : State) :
    Host.Outcome State Fault Refusal :=
  s.requestEvent (.setAnchor p tag space base length mask)

/-- PURGE (R36 to R38): taken by State.takePurge. -/
def execPurge (p : Port) (tag : Tag) (scope space : Byte) (segment page : BitVec 16) (s : State) : Host.Outcome State Fault Refusal :=
  s.requestEvent (.purge p tag scope space segment page)

/-- SET_WINDOW (R68, R69): taken by State.takeSetWindow. -/
def execSetWindow (p : Port) (tag : Tag) (window kind : Byte) (base limit target : BitVec 16) (s : State) : Host.Outcome State Fault Refusal :=
  s.requestEvent (.setWindow p tag window kind base limit target)

/-- SET_POOL (R75): taken by State.takeSetPool. -/
def execSetPool (p : Port) (tag : Tag) (size : BitVec 16) (s : State) : Host.Outcome State Fault Refusal := s.requestEvent (.setPool p tag size)

/-- SET_PORT (R163, R164): taken by State.takeSetPort. -/
def execSetPort (p : Port) (tag : Tag) (port cls c h : Byte) (t : BitVec 16) (s : State) : Host.Outcome State Fault Refusal :=
  s.requestEvent (.setPort p tag port cls c h t)

/-- FENCE (R166): taken by State.takeFence. -/
def execFence (p : Port) (tag : Tag) (set : BitVec 8) (s : State) : Host.Outcome State Fault Refusal := s.requestEvent (.fence p tag set)

/-- UNFENCE (R168): taken by State.takeUnfence. -/
def execUnfence (p : Port) (tag : Tag) (s : State) : Host.Outcome State Fault Refusal := s.requestEvent (.unfence p tag)

/-- PORT_RESET (R170): taken by State.takePortReset. -/
def execPortReset (p : Port) (tag : Tag) (port : Byte) (s : State) : Host.Outcome State Fault Refusal := s.requestEvent (.portReset p tag port)

/-- SET_TIMEBASE (R175): taken by State.takeSetTimebase. -/
def execSetTimebase (p : Port) (tag : Tag) (divide : BitVec 16) (s : State) : Host.Outcome State Fault Refusal :=
  s.requestEvent (.setTimebase p tag divide)

/-- COUNTERS (R177, R178): taken by State.takeCounters. -/
def execCounters (p : Port) (tag : Tag) (clear : Byte) (s : State) : Host.Outcome State Fault Refusal := s.requestEvent (.counters p tag clear)

/-- ALERT_CLEAR (R182): taken by State.takeAlertClear. -/
def execAlertClear (p : Port) (tag : Tag) (cause : Byte) (s : State) : Host.Outcome State Fault Refusal := s.requestEvent (.alertClear p tag cause)

/-- DEVICE_RESET (R184): taken by State.takeDeviceReset. -/
def execDeviceReset (p : Port) (tag : Tag) (s : State) : Host.Outcome State Fault Refusal := s.requestEvent (.deviceReset p tag)

end Sys2Proof.Machine
end

