-- ==== Sys2Proof/Machine/Frames.lean ====
section
/-! DEFINITION. The frames the part sends, byte by byte (chapter 10): status and cause codes, records, BATCH and DATA payloads. -/

namespace Sys2Proof.Machine

/-- Status codes (R195). -/
def Status.code : Status → Byte
  | .ok => 0x00
  | .queued => 0x01
  | .partialDone => 0x02
  | .malformed => 0x10
  | .notPermitted => 0x11
  | .busy => 0x12
  | .spaceDenied => 0x20
  | .segmentLimit => 0x21
  | .tableError => 0x22
  | .segmentAbsent => 0x23
  | .pageLimit => 0x24
  | .pageAbsent => 0x25
  | .rights => 0x26
  | .lockHeld => 0x27
  | .refused => 0x28
  | .dataError => 0x30
  | .alreadyHeld => 0x40
  | .limit => 0x41
  | .notOwner => 0x42
  | .notPending => 0x43

/-- Cause codes (R195). -/
def AlertCause.code : AlertCause → Byte
  | .tableError => 1
  | .dataError => 2
  | .linkDiscard => 3
  | .overrun => 4
  | .leaseExpired => 5
  | .linkLost => 6

/-- Rights codes (R12). -/
def Rights.code : Rights → Byte
  | .noAccess => 0
  | .read => 1
  | .write => 2
  | .readWrite => 3

/-- A guard as PROBE reports it: 255 for none (R192). -/
def guardCode (g : Option LockId) : Byte :=
  match g with
  | some n => .ofNat 8 n.val
  | none => 255

/-- A port, or 255 for none, as a lock block reports the owner (R192). -/
def ownerCode (o : Option Port) : Byte :=
  match o with
  | some p => .ofNat 8 p.val
  | none => 255

/-- The code of a fence's outcome (R194). -/
def FenceOutcome.code : FenceOutcome → Byte
  | .idle => 0
  | .cancelled => 1

/-- A presence flag at its bit (R192, R194). -/
def flagBit (present : Bool) (bit : Nat) : Byte := if present then 1#8 <<< bit else 0

/-- An optional field: its bytes when present. -/
def optionalField {α : Type} (f : α → List Byte) (x : Option α) : List Byte :=
  match x with
  | some a => f a
  | none => []

/-- The presence flags of reason, done count and fault address, bits 0 to 2 (R192, R194). -/
def presenceFlags (reason : Option Status) (doneCount : Option (BitVec 16)) (faultAddress : Option (BitVec 40)) : Byte :=
  flagBit reason.isSome 0 ||| flagBit doneCount.isSome 1 ||| flagBit faultAddress.isSome 2

/-- The fields reason, done count and fault address, in order (R192, R194). -/
def optionalFields (reason : Option Status) (doneCount : Option (BitVec 16)) (faultAddress : Option (BitVec 40)) : List Byte :=
  optionalField (fun st => [st.code]) reason ++ optionalField (fun n => beBytes 2 n.toNat) doneCount
    ++ optionalField (fun a => beBytes 5 a.toNat) faultAddress

/-- A record as a BATCH frame carries it (R194). -/
def Record.encode : Record → List Byte
  | .done tag st reason doneCount faultAddress value _ =>
      [1, presenceFlags reason doneCount faultAddress ||| flagBit value.isSome 3, tag, st.code]
        ++ optionalFields reason doneCount faultAddress ++ optionalField (fun v => beBytes 4 v.toNat) value
  | .grant lock tag => [2, 0, .ofNat 8 lock.val, tag]
  | .leaseLost lock => [3, 0, .ofNat 8 lock.val]
  | .fenceDone tag outcome => [4, 0, tag, outcome.code]
  | .alert cause count firstPort firstAddress =>
      [5, flagBit firstPort.isSome 0 ||| flagBit firstAddress.isSome 1, cause.code] ++ beBytes 2 count.toNat
        ++ optionalField (fun p => [BitVec.ofNat 8 p.val]) firstPort ++ optionalField (fun a => beBytes 4 a.toNat) firstAddress

/-- The decode outcome of a PROBE block, its code and its address (R192). -/
def DecodeOutcome.encode : DecodeOutcome → List Byte
  | .near a => 0 :: beBytes 4 a.toNat
  | .external a => 1 :: beBytes 4 a.toNat
  | .refused => 2 :: beBytes 4 0

/-- The body of a DATA frame (R192). -/
def DataBody.encode : DataBody → List Byte
  | .empty => []
  | .bytes data => data
  | .probe t outcome =>
      beBytes 3 t.frame.toNat
        ++ [t.adminRights.code, t.userRights.code, guardCode t.guard, if t.modifiedKnown then 1 else 0] ++ outcome.encode
  | .lock owner pending lease remaining => [ownerCode owner, pending] ++ beBytes 2 lease.toNat ++ beBytes 2 remaining.toNat
  | .counters values => values.flatMap fun v => beBytes 4 v.toNat

/-- The payload of a DATA frame (10.3). -/
def DataFrame.payload (f : DataFrame) : List Byte :=
  [f.status.code, presenceFlags f.reason f.doneCount f.faultAddress] ++ optionalFields f.reason f.doneCount f.faultAddress ++ f.body.encode

/-- The payload of a BATCH frame (R193). -/
def batchPayload (wake : Bool) (records : List Record) : List Byte :=
  [if wake then 1 else 0, .ofNat 8 records.length] ++ records.flatMap Record.encode

/-- A frame the part sends, with header and check; a BATCH carries tag 0 (R190). -/
def OutFrame.encode : OutFrame → List Byte
  | .batch wake records => frameBytes 0xA1 0 (batchPayload wake records)
  | .data f => frameBytes 0xA0 f.tag f.payload

/-- Whether a frame carries the DONE record of a DEVICE_RESET (R185). -/
def OutFrame.announcesReset : OutFrame → Bool
  | .batch _ records => records.any fun x => match x with
      | .done _ _ _ _ _ _ .deviceReset => true
      | _ => false
  | .data _ => false

end Sys2Proof.Machine
end

