-- ==== Sys2Proof/Machine/Links.lean ====
section
/-! DEFINITION. Link events and transmissions: LINK_UP, LINK_DOWN, TRANSMISSION_COMPLETE, and the frames REQUEST_ADMISSION and BATCH_ACK. -/

namespace Sys2Proof.Machine

/-- A link-up report at a port in operation (R157); one equal to the link state held is ignored (R158). -/
def State.linkUpReport (s : State) (p : Port) : State :=
  s.modPort p fun r =>
    if r.link = .up then r
    else { r with link := .up, state := if r.state = .down && !s.draining then .active else r.state }

/-- A link-down report at a port in operation (R158): the port reset and the occurrence are taken before the device reset that the port reset may begin (R185; log 25), and no transmitter begins a batch of their records before it (log 29). The GRANT records of the port reset stand before the ALERT records of the occurrence (R181; log 33). -/
def State.linkDownReport (s : State) (p : Port) : State :=
  if (s.port p).link = .down then s
  else
    let t := s.modPort p fun r => { r with link := .down, transmitter := none }
    if t.draining then t
    else match (t.port p).state with
      | .active => ((t.clearPort p).occurrence .linkLost p none).beginIfAnnounced p
      | .resetting => t.occurrence .linkLost p none
      | .down => t

/-- A link report during start-up: the last one is taken at its end (R189). -/
def State.startUpLinkReport (s : State) (p : Port) (l : Link) : State := s.modPort p fun r => { r with startUpLink := l }

/-- LINK_UP (R157, R189). -/
def execLinkUp (p : Port) (s : State) : Host.Outcome State Fault Refusal :=
  if s.power = .startUp then .next (s.startUpLinkReport p .up) else s.event fun s => s.linkUpReport p

/-- LINK_DOWN (R158, R189). -/
def execLinkDown (p : Port) (s : State) : Host.Outcome State Fault Refusal :=
  if s.power = .startUp then .next (s.startUpLinkReport p .down) else s.event fun s => s.linkDownReport p

/-- The completion of port p's transmission: the frame has reached the link, the transmitter is free, and the batch with a DEVICE_RESET's DONE record begins the device reset (R149, R185). -/
def State.transmissionDone (s : State) (p : Port) : State :=
  match (s.port p).transmitter with
  | none => s
  | some f =>
      let t := s.modPort p fun r => { r with transmitter := none, delivered := f.encode }
      if f.announcesReset && t.deviceReset == .announced p then t.beginDeviceReset else t

/-- TRANSMISSION_COMPLETE (R149). -/
def execTransmissionComplete (p : Port) (s : State) : Host.Outcome State Fault Refusal := s.event fun s => s.transmissionDone p

/-- REQUEST_ADMISSION: the arrival of a frame's bytes (R159 to R161). -/
def execRequestAdmission (p : Port) (frame : List Byte) (s : State) : Host.Outcome State Fault Refusal :=
  s.event fun s => s.arriveBytes p frame

/-- BATCH_ACK: the arrival of its frame (R144, R160). -/
def execBatchAck (p : Port) (tag : Tag) (s : State) : Host.Outcome State Fault Refusal := s.requestEvent (.batchAck p tag)

end Sys2Proof.Machine
end

