-- ==== Sys2Proof/Machine/MemoryEvents.lean ====
section
/-! DEFINITION. Events of the targets: MEMORY_OPERATION_COMPLETE, POOL_READY, BYTE_DISTURBANCE. One that the state rules out changes nothing (log 2). -/

namespace Sys2Proof.Machine

/-- The DATA_ERROR occurrence of an agent's read, with the external address of the lowest failing byte (R85). -/
def State.dataErrorOccurrence (s : State) (p : Port) (res : OpResult) : State :=
  match res with
  | .dataError a => s.occurrence .dataError p (some (.ofNat 32 a))
  | _ => s

/-- The completion of port p's operation: the occurrence first (R181), then the engine goes on, unless the result is discarded by a port reset or a device reset (R82, R100, R109). The occurrence of a discarded read comes before the port's reset is done and its PORT_RESET answered (R85, R172; log 28). -/
def State.engineOpComplete (s : State) (p : Port) : State :=
  match s.completeOp (.engine p) with
  | some (res, op, t) =>
      if t.draining then t
      else
        let u := t.dataErrorOccurrence p res
        if op.discard then u else u.arbiterRace.operationDone p res
  | none => s

/-- MEMORY_OPERATION_COMPLETE (R100). -/
def execMemoryOperationComplete (p : Port) (s : State) : Host.Outcome State Fault Refusal := s.event fun s => s.engineOpComplete p

/-- An engine leaves POOL_WAIT at READY: the held SET_POOL replies, a waiting portion takes checks 5 and 6 again (R77, R99). -/
def State.leavePoolWait (s : State) (p : Port) : State :=
  let e := (s.port p).engine
  if e.state = .poolWait then
    match e.current with
    | some c =>
        match c.ops with
        | .setPool _ => s.replyStatus p c.tag .ok
        | _ => s.issue p
    | none => s
  else s

/-- A walk slot that waits for READY places its operation with the pool arbiter (R77). -/
def State.leaveReadyWait (s : State) (i : SlotId) : State :=
  if (s.slot i).waitingReady then
    (s.modSlot i fun w => { w with waitingReady := false }).placeOp .external (slotOperation i (s.slot i))
  else s

/-- The end of the fill: every byte zero with a valid check bit, READY, and whatever waited for it (R76, R77). -/
def State.poolBecomesReady (s : State) : State :=
  if s.pool.state = .initializing then
    let t : State := { s with pool := { s.pool with state := .ready, cells := [], failed := [] } }
    if t.draining then t else allSlots.foldl State.leaveReadyWait (allPorts.foldl State.leavePoolWait t)
  else s

/-- POOL_READY (R77). -/
def execPoolReady (s : State) : Host.Outcome State Fault Refusal := s.event State.poolBecomesReady

/-- A disturbance of an external byte while the pool is READY (R83). -/
def State.disturb (s : State) (a : PhysAddress) : State :=
  if s.pool.state = .ready && decide (a.toNat < s.pool.top) then
    { s with pool := { s.pool with failed := failByte s.pool.failed a.toNat } }
  else s

/-- BYTE_DISTURBANCE (R83). -/
def execByteDisturbance (a : PhysAddress) (s : State) : Host.Outcome State Fault Refusal := s.event fun s => s.disturb a

end Sys2Proof.Machine
end

