-- ==== Sys2Proof/Machine/Power.lean ====
section
/-! DEFINITION. Power-on (R189): POWER_ON_RESET_ASSERT, POWER_ON_RESET_RELEASE, START_UP_END. -/

namespace Sys2Proof.Machine

/-- Every block stopped: operations and transmissions in progress do not complete (R189). -/
def State.stopped (s : State) : State :=
  ({ s with
      power := .held
      nearArbiter := { s.nearArbiter with waiting := [], taken := [] }
      poolArbiter := { s.poolArbiter with waiting := [], taken := [] } } : State).mapPorts fun _ r => { r with transmitter := none }

/-- The part in start-up: every block at its power-on value, the near store being zeroed (R189, log 14). -/
def State.startingUp (s : State) : State := { State.powerOn s.near Pool.powerOn portsPowerOn s.pending s.freeCount with power := .startUp }

/-- The link-up report that a link last reported up during start-up gives at its end (R189). -/
def State.startUpReport (s : State) (p : Port) : State := if (s.port p).startUpLink = .up then s.linkUpReport p else s

/-- The end of start-up: the near store is zero, and the links last reported up give their reports (R73, R189). -/
def State.started (s : State) : State := allPorts.foldl State.startUpReport { s with power := .operating, near := [] }

/-- POWER_ON_RESET_ASSERT (R189). -/
def execPowerOnResetAssert (s : State) : Host.Outcome State Fault Refusal := .next s.stopped

/-- POWER_ON_RESET_RELEASE (R189): the release of an input that is not held is no event (log 2). -/
def execPowerOnResetRelease (s : State) : Host.Outcome State Fault Refusal := .next (if s.power = .held then s.startingUp else s)

/-- START_UP_END (R189). -/
def execStartUpEnd (s : State) : Host.Outcome State Fault Refusal := .next (if s.power = .startUp then s.started else s)

end Sys2Proof.Machine
end

