-- ==== Sys2Proof/Machine/Time.lean ====
section
/-! DEFINITION. The timebase (9.1): REFERENCE_CLOCK_PERIOD, TIMEBASE_TICK, LEASE_EXPIRY, COALESCING_TIMER_EXPIRY. -/

namespace Sys2Proof.Machine

/-- Whether a lock's lease expires at the next tick (R124). -/
def Lock.expiresNext (l : Lock) : Bool := l.counter == some 1

/-- Whether a coalescing timer expires at the next tick (R142). -/
def Timer.expiresNext (t : Timer) : Bool := t == .running 1

/-- Whether a timer is RUNNING. -/
def Timer.isRunning : Timer → Bool
  | .running _ => true
  | .stopped => false
  | .expired => false

/-- Whether the order of a lease's expiry and the ticks of a port's timer can show: the timer runs, or a batch that the expiry makes due would set it running (R141; log 8). -/
def PortRec.timerRaces (r : PortRec) : Bool := r.timer.isRunning || r.tickInterval != 0

/-- Whether it can show which consumer a tick reaches first: a lease expires, and some port's timer runs or may be set running by a batch, be it STOPPED or EXPIRED before (log 8). -/
def State.tickRaces (s : State) : Bool :=
  allLocks.any (fun n => (s.lock n).expiresNext) && allPorts.any fun p => (s.port p).timerRaces

/-- In an order of the consumers of a tick: whether port p's coalescing timer takes the tick before the lock unit does (log 8). -/
def timerFirst (order : Nat) (p : Port) : Bool := order.testBit (2 * p.val)

/-- In an order of the consumers of a tick: whether port p's transmitter chooses between the lock unit and port p's timer (log 8). -/
def reportsBetween (order : Nat) (p : Port) : Bool := order.testBit (2 * p.val + 1)

/-- A tick at its consumers in a given order: the timers that come first, the lock unit, the other timers, and between the lock unit and a port's timer the port's reporting unit, where the order has it act (R174; log 8). -/
def State.tickInOrder (s : State) (order : Nat) : State :=
  ((((s.timersTickOf (timerFirst order)).reportOf (reportsBetween order)).leaseTick).reportOf (reportsBetween order)).timersTickOf
    fun p => !timerFirst order p

/-- A tick at the lock unit and at each port's timer, in the order among these nine that the spec leaves open (R174; log 8). -/
def State.deliverTick (s : State) : State :=
  if s.tickRaces then s.drawPick.2.tickInOrder s.drawPick.1 else s.leaseTick.timersTick

/-- Whether the next period of the reference clock ends with a tick: the prescaler count stands at D (R174). -/
def State.tickDue (s : State) : Bool := decide (s.divide.toNat ≤ s.prescaler.toNat)

/-- The period that ends with a tick: the count returns to 0; during a device reset no consumer takes the tick (R174, R186). -/
def State.tick (s : State) : State :=
  let t : State := { s with prescaler := 0 }
  if t.draining then t else t.deliverTick

/-- One period of the reference clock (R174). -/
def State.clockPeriod (s : State) : State := if s.tickDue then s.tick else { s with prescaler := s.prescaler + 1 }

/-- REFERENCE_CLOCK_PERIOD (R174). -/
def execReferenceClockPeriod (s : State) : Host.Outcome State Fault Refusal := s.event State.clockPeriod

/-- TIMEBASE_TICK (R174): the period that ends with a tick; where the next period does not, there is no such event (logs 2 and 9). -/
def execTimebaseTick (s : State) : Host.Outcome State Fault Refusal := s.event fun s => if s.tickDue then s.tick else s

/-- Whether the next period ends with a tick that its consumers take: during a device reset they take none, and nothing expires (R132, R174, R186; log 2). -/
def State.tickTaken (s : State) : Bool := s.tickDue && !s.draining

/-- LEASE_EXPIRY of lock n (R124): the tick that brings its lease counter to 0, whole (log 9); no such event during a device reset (log 2). -/
def execLeaseExpiry (n : LockId) (s : State) : Host.Outcome State Fault Refusal :=
  s.event fun s => if s.tickTaken && (s.lock n).expiresNext then s.tick else s

/-- COALESCING_TIMER_EXPIRY of port p (R142): the tick that brings its timer to 0, whole (log 9); no such event during a device reset (log 2). -/
def execCoalescingTimerExpiry (p : Port) (s : State) : Host.Outcome State Fault Refusal :=
  s.event fun s => if s.tickTaken && (s.port p).timer.expiresNext then s.tick else s

end Sys2Proof.Machine
end

