-- ==== Sys2Proof/Machine/Walks.lean ====
section
/-! DEFINITION. The walker's own events: WALK_REQUEST, OFFERED_LOOKUP, OFFER_ANSWER, DESCRIPTOR_READ_COMPLETE, MAP_UPDATE_COMPLETE. One that the state rules out changes nothing (log 2). -/

namespace Sys2Proof.Machine

/-- The walker takes the request of an engine in TRANSLATE (R43, R94). -/
def State.walkRequested (s : State) (p : Port) : State := if (s.port p).engine.state = .translate && !s.draining then s.walkerTakes p else s

/-- WALK_REQUEST (R43). -/
def execWalkRequest (p : Port) (s : State) : Host.Outcome State Fault Refusal := s.event fun s => s.walkRequested p

/-- The repeated lookup of a port that holds an offer and has not made it yet (R48). -/
def State.offeredLooks (s : State) (p : Port) : State :=
  match s.waitEntry p with
  | some e => if e.answer.isNone && s.isOffered p && !s.draining then s.repeatLookup p e else s
  | none => s

/-- OFFERED_LOOKUP (R48). -/
def execOfferedLookup (p : Port) (s : State) : Host.Outcome State Fault Refusal := s.event fun s => s.offeredLooks p

/-- The walker takes the outcome of the repeated lookup (R48). -/
def State.offerAnswered (s : State) (p : Port) : State :=
  match s.waitEntry p, s.offeredSlot p with
  | some e, some i =>
      match e.answer with
      | some found => if s.draining then s else s.answerOffer p i e found
      | none => s
  | _, _ => s

/-- OFFER_ANSWER (R48). -/
def execOfferAnswer (p : Port) (s : State) : Host.Outcome State Fault Refusal := s.event fun s => s.offerAnswered p

/-- The completion of the descriptor read of a walk slot in DESCRIPTOR; during a device reset its result is discarded (R51, R63). -/
def State.descriptorComplete (s : State) (i : SlotId) : State :=
  match s.completeOp (.slot i) with
  | some (res, op, t) =>
      if op.kind.mapSets.isSome || (s.slot i).phase != .descriptor then s
      else if t.draining then t
      else t.arbiterRace.descriptorDone i res
  | none => s

/-- DESCRIPTOR_READ_COMPLETE (R51). -/
def execDescriptorReadComplete (k : SlotId) (s : State) : Host.Outcome State Fault Refusal := s.event fun s => s.descriptorComplete k

/-- The completion of the map update of a walk slot in MAP; during a device reset its outcome is discarded (R53, R54, R63). -/
def State.mapComplete (s : State) (i : SlotId) : State :=
  match s.completeOp (.slot i) with
  | some (res, op, t) =>
      match op.kind.mapSets with
      | some setModified =>
          if (s.slot i).phase != .map then s
          else if t.draining then t
          else t.arbiterRace.endWalk i (mapOutcome (s.slot i) setModified res)
      | none => s
  | none => s

/-- MAP_UPDATE_COMPLETE (R54). -/
def execMapUpdateComplete (k : SlotId) (s : State) : Host.Outcome State Fault Refusal := s.event fun s => s.mapComplete k

end Sys2Proof.Machine
end

