-- ==== Sys2Proof/Machine/Dispatch.lean ====
section
/-! DEFINITION. The dispatch of a command to its meaning: one arm per row of the opcode table. -/

namespace Sys2Proof.Machine

def exec (i : Instr) (s : State) : Host.Outcome State Fault Refusal :=
  match i with
  | .powerOnResetAssert => Sys2Proof.Machine.execPowerOnResetAssert s
  | .powerOnResetRelease => Sys2Proof.Machine.execPowerOnResetRelease s
  | .startUpEnd => Sys2Proof.Machine.execStartUpEnd s
  | .linkUp p => Sys2Proof.Machine.execLinkUp p s
  | .linkDown p => Sys2Proof.Machine.execLinkDown p s
  | .requestAdmission p frame => Sys2Proof.Machine.execRequestAdmission p frame s
  | .batchAck p tag => Sys2Proof.Machine.execBatchAck p tag s
  | .malformedRequest p kind tag payload => Sys2Proof.Machine.execMalformedRequest p kind tag payload s
  | .read p tag addr len flags => Sys2Proof.Machine.execRead p tag addr len flags s
  | .write p tag addr flags data => Sys2Proof.Machine.execWrite p tag addr flags data s
  | .probe p tag addr => Sys2Proof.Machine.execProbe p tag addr s
  | .physRead p tag addr len => Sys2Proof.Machine.execPhysRead p tag addr len s
  | .physWrite p tag addr data => Sys2Proof.Machine.execPhysWrite p tag addr data s
  | .lock p tag n => Sys2Proof.Machine.execLock p tag n s
  | .unlock p tag n => Sys2Proof.Machine.execUnlock p tag n s
  | .lockWithdraw p tag n => Sys2Proof.Machine.execLockWithdraw p tag n s
  | .lockQuery p tag n => Sys2Proof.Machine.execLockQuery p tag n s
  | .setLock p tag n lease => Sys2Proof.Machine.execSetLock p tag n lease s
  | .setAnchor p tag space base length mask => Sys2Proof.Machine.execSetAnchor p tag space base length mask s
  | .purge p tag scope space segment page => Sys2Proof.Machine.execPurge p tag scope space segment page s
  | .setWindow p tag window kind base limit target => Sys2Proof.Machine.execSetWindow p tag window kind base limit target s
  | .setPool p tag size => Sys2Proof.Machine.execSetPool p tag size s
  | .setPort p tag port cls c h t => Sys2Proof.Machine.execSetPort p tag port cls c h t s
  | .fence p tag set => Sys2Proof.Machine.execFence p tag set s
  | .unfence p tag => Sys2Proof.Machine.execUnfence p tag s
  | .portReset p tag port => Sys2Proof.Machine.execPortReset p tag port s
  | .setTimebase p tag divide => Sys2Proof.Machine.execSetTimebase p tag divide s
  | .counters p tag clear => Sys2Proof.Machine.execCounters p tag clear s
  | .alertClear p tag cause => Sys2Proof.Machine.execAlertClear p tag cause s
  | .deviceReset p tag => Sys2Proof.Machine.execDeviceReset p tag s
  | .walkRequest p => Sys2Proof.Machine.execWalkRequest p s
  | .offeredLookup p => Sys2Proof.Machine.execOfferedLookup p s
  | .offerAnswer p => Sys2Proof.Machine.execOfferAnswer p s
  | .descriptorReadComplete k => Sys2Proof.Machine.execDescriptorReadComplete k s
  | .mapUpdateComplete k => Sys2Proof.Machine.execMapUpdateComplete k s
  | .memoryOperationComplete p => Sys2Proof.Machine.execMemoryOperationComplete p s
  | .poolReady => Sys2Proof.Machine.execPoolReady s
  | .byteDisturbance a => Sys2Proof.Machine.execByteDisturbance a s
  | .timebaseTick => Sys2Proof.Machine.execTimebaseTick s
  | .leaseExpiry n => Sys2Proof.Machine.execLeaseExpiry n s
  | .coalescingTimerExpiry p => Sys2Proof.Machine.execCoalescingTimerExpiry p s
  | .transmissionComplete p => Sys2Proof.Machine.execTransmissionComplete p s
  | .referenceClockPeriod => Sys2Proof.Machine.execReferenceClockPeriod s

end Sys2Proof.Machine
end

