-- ==== Sys2Proof/Safety.lean ====
section
/-! DEFINITION. What a good state is: the laws the spec says always hold, each a decidable statement about one state, and the states in which an event has left nothing undone. -/

namespace Sys2Proof.Machine

/-! ### Memory -/

/-- A list of addresses strictly rises. -/
def rising : List Nat → Bool
  | [] => true
  | [_] => true
  | a :: b :: rest => decide (a < b) && rising (b :: rest)

/-- Both stores are in canonical form and the failed-byte list rises. -/
abbrev State.MemoryCanonical (s : State) : Prop := s.near.wf = true ∧ s.pool.cells.wf = true ∧ rising s.pool.failed = true

/-! ### Ports -/

/-- A port's request queue never holds more than 8 requests (R161). -/
abbrev State.QueueLaw (s : State) : Prop := ∀ p : Port, (s.port p).requestQueue.length ≤ Config.requestQueueLimit

/-- At least one port is ADMINISTRATIVE (R163). -/
abbrev State.ClassLaw (s : State) : Prop := ∃ p : Port, (s.port p).cls = .administrative

/-- A running timer has 1 to 1023 ticks left (R142). -/
def Timer.inRange : Timer → Bool
  | .running n => decide (1 ≤ n) && decide (n ≤ 1023)
  | .stopped => true
  | .expired => true

/-- Coalescing parameters and timers are in range (R136, R142). -/
abbrev State.CoalescingLaw (s : State) : Prop :=
  ∀ p : Port, (s.port p).countThreshold ≤ 16 ∧ (s.port p).heldThreshold ≤ 16 ∧ (s.port p).tickInterval ≤ 1023 ∧ (s.port p).timer.inRange = true

/-! ### Locks -/

/-- A lock without owner has an empty pending set and no lease counter; no port is owner and pending; setting and counter are in range (R111, 6.1). -/
abbrev Lock.Lawful (l : Lock) : Prop :=
  (l.owner = none → (∀ q : Port, l.pending[q] = none) ∧ l.counter = none)
    ∧ (∀ q : Port, l.owner = some q → l.pending[q] = none)
    ∧ l.lease.toNat ≤ 60000
    ∧ (∀ n ∈ l.counter, 1 ≤ n ∧ n ≤ 60000000)

/-- Every lock is lawful (R111). -/
abbrev State.LockLaw (s : State) : Prop := ∀ n : LockId, (s.lock n).Lawful

/-- A port's holdings never exceed four (R112). -/
abbrev State.HoldingsLaw (s : State) : Prop := ∀ p : Port, s.holdings p ≤ Config.holdingsLimit

/-! ### Cache and walker -/

/-- A valid entry stands in the set of its key, and the two ways of a set hold different keys (R23, R30). -/
abbrev State.CacheLaw (s : State) : Prop :=
  ∀ i : Fin 128,
    (∀ e ∈ s.cache[i].way0, setIndex e.key = i)
      ∧ (∀ e ∈ s.cache[i].way1, setIndex e.key = i)
      ∧ (∀ e ∈ s.cache[i].way0, ∀ e' ∈ s.cache[i].way1, e.key ≠ e'.key)

/-- A slot is busy. -/
def WalkSlot.busy (w : WalkSlot) : Bool := w.phase != .free

/-- No two busy slots that are not stale have the same key, and only a FREE slot is offered (R42, R47). -/
abbrev State.WalkLaw (s : State) : Prop :=
  (∀ i j : SlotId, (s.slot i).busy = true → (s.slot i).stale = false → (s.slot j).busy = true → (s.slot j).stale = false →
      (s.slot i).key = (s.slot j).key → i = j)
    ∧ ∀ i : SlotId, (s.slot i).offeredTo ≠ none → (s.slot i).busy = false

/-! ### Pool and arbiters -/

/-- The pool is UNSET with pool top 0 or has a pool top of 1 MiB to 4 GiB; its arbiter holds operations only while it is READY; each target holds no more operations than it accepts (R74 to R76, R80). -/
abbrev State.PoolLaw (s : State) : Prop :=
  (s.pool.state = .unset → s.pool.top = 0)
    ∧ (s.pool.state ≠ .unset → Config.mebibyte ≤ s.pool.top)
    ∧ s.pool.top ≤ 2 ^ 32 ∧ s.pool.top % Config.mebibyte = 0
    ∧ (s.pool.state ≠ .ready → s.poolArbiter.waiting = [] ∧ s.poolArbiter.taken = [])
    ∧ s.nearArbiter.taken.length ≤ Config.nearDepth ∧ s.poolArbiter.taken.length ≤ Config.poolDepth

/-! ### The administration unit -/

/-- Every anchor is one SET_ANCHOR lets through (R4). -/
abbrev State.AnchorLaw (s : State) : Prop :=
  ∀ i : Fin 8, s.anchors[i].length ≤ 512 ∧ s.anchors[i].base.toNat % 8 = 0 ∧ s.anchors[i].base.toNat + 8 * s.anchors[i].length ≤ 2 ^ 32

/-- Every window is one SET_WINDOW lets through (R67, R68). -/
abbrev State.WindowLaw (s : State) : Prop :=
  ∀ i : WindowId,
    (s.windows[i].kind ≠ .relocate → s.windows[i].target = 0)
      ∧ (s.windows[i].kind = .relocate → s.windows[i].base.toNat ≤ s.windows[i].limit.toNat →
          s.windows[i].target.toNat + (s.windows[i].limit.toNat - s.windows[i].base.toNat) ≤ 65535)

/-- The prescaler count is at most D (R174). -/
abbrev State.TimebaseLaw (s : State) : Prop := s.prescaler.toNat ≤ s.divide.toNat

/-- A latch is clear with count 0 and nothing recorded, or set with a count from 1 (R179, R180). -/
abbrev State.LatchLaw (s : State) : Prop :=
  ∀ i : Fin 6, (s.latches[i].isSet = false → s.latches[i] = Latch.clear) ∧ (s.latches[i].isSet = true → s.latches[i].count ≠ 0)

/-! ### The bound of forty (7.1) -/

/-- The records a port's locks may still add: two for a lock it waits for, one for a lock it owns under a lease. -/
def State.lockRecordsLeft (s : State) (p : Port) : Nat :=
  (allLocks.map fun n =>
    (if (s.lock n).pending[p].isSome then 2 else 0) + (if (s.lock n).owner = some p then 1 else 0)).sum

/-- The alert causes. -/
def allCauses : List AlertCause := [.tableError, .dataError, .linkDiscard, .overrun, .leaseExpired, .linkLost]

/-- The ALERT records a port's queue has room for: the causes of which none is queued (R181). -/
def PortRec.alertsLeft (r : PortRec) : Nat := (allCauses.filter fun c => !r.completionQueue.any (Record.isAlertOf c)).length

/-- Whether a PENDING fence is the port's own, so that a FENCE_DONE record is still to come. -/
def State.fenceRecordLeft (s : State) (p : Port) : Nat :=
  match s.fence with
  | .pending owner _ _ => if owner = p then 1 else 0
  | .held _ _ _ => 0
  | .none => 0

/-- Whether a request is in progress, so that its reply is still to come. -/
def PortRec.replyLeft (r : PortRec) : Nat := if r.engine.current.isSome then 1 else 0

/-- A port's completion queue never holds more than 40 records (R133). -/
abbrev State.QueueBound (s : State) : Prop := ∀ p : Port, (s.port p).completionQueue.length ≤ 40

/-- The queue and all that may be added to it before the port's engine takes another request or its receiver refuses one come to at most 40 (7.1). -/
abbrev State.QueueBudget (s : State) : Prop :=
  ∀ p : Port,
    (s.port p).completionQueue.length + (s.port p).replyLeft + s.lockRecordsLeft p + (s.port p).alertsLeft + s.fenceRecordLeft p ≤ 40

/-! ### Rest -/

/-- Whether every port of a fence's set is idle, so that a PENDING fence would be told so (R167). -/
def State.fenceMet (s : State) : Bool :=
  match s.fence with
  | .pending _ _ set => allPorts.all fun q => !inSet set q || (s.port q).fenceIdle
  | .held _ _ _ => false
  | .none => false

/-- An event has left nothing undone: no engine may take a request (R88), no transmitter has a frame to begin (R148), no arbiter an operation to take (R79), no port reset is done and unreported (R172), no FREE slot could be offered (R47), no PENDING fence is met (R167), and no device reset in progress could end (R187) or bring its arbiters or its walker to rest (R63, R82). -/
abbrev State.AtRest (s : State) : Prop :=
  (∀ p : Port, s.canTake p = false)
    ∧ s.arbiterReady .near = false ∧ s.arbiterReady .external = false
    ∧ (s.draining = false →
        (∀ p : Port, (s.port p).canTransmit = false)
          ∧ (∀ p : Port, (s.port p).state = .resetting → s.hasOp (.engine p) = true)
          ∧ (∀ i : SlotId, (s.slot i).phase = .free → (s.slot i).offeredTo = none → s.nextOffered = none)
          ∧ s.fenceMet = false)
    ∧ (s.draining = true →
        s.drained = false
          ∧ (s.nearArbiter.taken = [] → s.poolArbiter.taken = [] → s.nearArbiter = Arbiter.powerOn ∧ s.poolArbiter = Arbiter.powerOn)
          ∧ (s.walkerOutstanding = false → s.walker = Walker.powerOn ∧ s.walksStarted = 0 ∧ s.staleWalks = 0))

/-- A port during start-up: its power-on values but for the link state last reported (R189). -/
abbrev PortRec.startingUp (p : Port) (r : PortRec) : Prop := r = { PortRec.powerOn p with startUpLink := r.startUpLink }

/-- In operation the part is at rest; during start-up every block has its power-on value (R189). -/
abbrev State.Settled (s : State) : Prop :=
  (s.power = .operating → s.AtRest)
    ∧ (s.power = .startUp →
        (∀ p : Port, (s.port p).startingUp p)
          ∧ s = { State.powerOn s.near Pool.powerOn s.ports s.pending s.freeCount with power := .startUp })

/-- Nothing of the part is in progress, waits or could begin, but what the given port asks for next: in operation, no device reset in progress, at rest, no request in any request queue. -/
abbrev State.Quiet (s : State) : Prop := s.power = .operating ∧ s.draining = false ∧ s.AtRest ∧ ∀ q : Port, (s.port q).requestQueue = []

/-- In operation, no device reset in progress, and at rest; requests may wait at any port. -/
abbrev State.Resting (s : State) : Prop := s.power = .operating ∧ s.draining = false ∧ s.AtRest

/-- What R88 asks of a port, its engine and its queue of records before a taking. -/
abbrev State.Able (s : State) (p : Port) : Prop :=
  (s.port p).state = .active ∧ (s.port p).engine.state = .idle ∧ (s.port p).fenced = false
    ∧ (s.port p).completionQueue.length < Config.batchLimit ∧ s.deviceReset.allows p = true

/-- The engine of a port would take a request that arrived (R88). -/
abbrev State.Ready (s : State) (p : Port) : Prop := s.Quiet ∧ s.Able p

/-- A port's record once a request has been accepted and taken, its queue empty again. -/
def PortRec.engaged (x : PortRec) (r : Request) : PortRec :=
  { x with requestQueue := [], requestsAccepted := x.requestsAccepted + 1, engine := { Engine.idle with current := some (currentOf r) } }

end Sys2Proof.Machine
end

