-- ==== Sys2Proof/WellFormed.lean ====
section
/-! DEFINITION. Which commands are well formed: the ones whose operands have the form their row gives them. The meanings are total on all the others too (log 20). -/

namespace Sys2Proof

/-- Whether a command's operands have the form its row gives: a request's payload is one that its kind allows (10.2), a MALFORMED_REQUEST is a request that R191 answers MALFORMED and no BATCH_ACK, and the frame of a REQUEST_ADMISSION is no BATCH_ACK with an empty payload (R160). -/
def Instr.wellFormed : Instr → Bool
  | .write _ _ _ _ data => 1 ≤ data.length && data.length ≤ 256
  | .physWrite _ _ _ data => 1 ≤ data.length && data.length ≤ 256
  | .malformedRequest _ kind tag payload =>
      (readOperands ⟨kind, tag, payload⟩).isNone && !(kind == batchAckKind && payload.isEmpty)
        && payload.length ≤ Config.payloadLimit
  | .requestAdmission _ frame =>
      match readFrame frame with
      | some r => !(r.kind == batchAckKind && r.payload.isEmpty)
      | none => true
  | .powerOnResetAssert => true
  | .powerOnResetRelease => true
  | .startUpEnd => true
  | .linkUp _ => true
  | .linkDown _ => true
  | .batchAck _ _ => true
  | .read _ _ _ _ _ => true
  | .probe _ _ _ => true
  | .physRead _ _ _ _ => true
  | .lock _ _ _ => true
  | .unlock _ _ _ => true
  | .lockWithdraw _ _ _ => true
  | .lockQuery _ _ _ => true
  | .setLock _ _ _ _ => true
  | .setAnchor _ _ _ _ _ _ => true
  | .purge _ _ _ _ _ _ => true
  | .setWindow _ _ _ _ _ _ _ => true
  | .setPool _ _ _ => true
  | .setPort _ _ _ _ _ _ _ => true
  | .fence _ _ _ => true
  | .unfence _ _ => true
  | .portReset _ _ _ => true
  | .setTimebase _ _ _ => true
  | .counters _ _ _ => true
  | .alertClear _ _ _ => true
  | .deviceReset _ _ => true
  | .walkRequest _ => true
  | .offeredLookup _ => true
  | .offerAnswer _ => true
  | .descriptorReadComplete _ => true
  | .mapUpdateComplete _ => true
  | .memoryOperationComplete _ => true
  | .poolReady => true
  | .byteDisturbance _ => true
  | .timebaseTick => true
  | .leaseExpiry _ => true
  | .coalescingTimerExpiry _ => true
  | .transmissionComplete _ => true
  | .referenceClockPeriod => true

end Sys2Proof
end

