-- ==== Sys2Proof/Certificates/Slice0/Obligations.lean ====
section
/-! DEFINITION. The statements for the provers. Words they share stand first; each obligation follows as def Obligations.<Name>.

Three of the model's own conventions stand under many statements: the command of a request is the arrival of its frame (log 1); an engine that is IDLE holds the field current portion as first (log 32), and a FREE walk slot 0 in the fields without meaning (log 15). -/

namespace Sys2Proof

/-! ### Words the statements share -/

/-- The portions of an access request whose address and length are in range; none where they are not (R1, R91, R92, R101 to R104). -/
def Operands.portions : Operands → Option (List Machine.Portion)
  | .read a len _ => if 1 ≤ len.toNat ∧ len.toNat ≤ 256 ∧ a.toNat + len.toNat ≤ 2 ^ 34 then some (Machine.portionsOf (a.setWidth 34) len.toNat) else none
  | .write a _ data =>
      if 1 ≤ data.length ∧ data.length ≤ 256 ∧ a.toNat + data.length ≤ 2 ^ 34 then some (Machine.portionsOf (a.setWidth 34) data.length) else none
  | .probe a => if a.toNat < 2 ^ 34 then some [⟨a.setWidth 34, 0⟩] else none
  | .physRead a len => if 1 ≤ len.toNat ∧ len.toNat ≤ 256 ∧ a.toNat + len.toNat ≤ 2 ^ 32 then some (Machine.portionsOf (a.setWidth 34) len.toNat) else none
  | .physWrite a data =>
      if 1 ≤ data.length ∧ data.length ≤ 256 ∧ a.toNat + data.length ≤ 2 ^ 32 then some (Machine.portionsOf (a.setWidth 34) data.length) else none
  | _ => none

/-- Whether a request is READ, WRITE or PROBE. -/
def Operands.isLogical : Operands → Bool
  | .read _ _ _ => true
  | .write _ _ _ => true
  | .probe _ => true
  | _ => false

end Sys2Proof

namespace Sys2Proof.Machine

/-- A port's record after its reply by a DONE record to a request accepted and taken at this event. -/
def PortRec.replied (r : PortRec) (tag : Tag) (st : Status) (value : Option (BitVec 32) := none) (fault : Option (BitVec 40) := none)
    (mark : DoneMark := .plain) : PortRec :=
  { r with requestsAccepted := r.requestsAccepted + 1 }.replyDone tag st none none fault value mark

/-- The reply of port p's request by a DONE record, before the transmitter chooses. -/
def State.replied (s : State) (p : Port) (tag : Tag) (st : Status) : State := s.modPort p fun r => r.replied tag st

/-- Port p's request accepted, taken and answered by a DONE record; then the transmitter's choice. Nothing else changes. -/
def State.answered (s : State) (p : Port) (tag : Tag) (st : Status) (value : Option (BitVec 32) := none) : State :=
  s.modPort p fun r => (r.replied tag st value).report

/-- Port p's request accepted, taken and answered by a DATA frame; then the transmitter's choice. Nothing else changes. -/
def State.answeredData (s : State) (p : Port) (req : Request) (f : DataFrame) (flush : Bool := false) : State :=
  s.modPort p fun r => ((r.engaged req).replyData f flush).report

/-- The records that have left a port's producers and not yet reached the link, oldest first: those of the batch being sent and those queued. -/
def PortRec.outgoing (r : PortRec) : List Record :=
  (match r.transmitter with
    | some (.batch _ records) => records
    | some (.data _) => []
    | none => []) ++ r.completionQueue

/-- The lease counter that a lock with a setting gets at a grant: 1000 ticks for each ms, none for setting 0 (R121). -/
def loadedLease (ms : BitVec 16) : Option Nat := if ms = 0 then none else some (ms.toNat * 1000)

/-- The lock setting, owner and so on of a lock granted to port q, which was pending. -/
def Lock.grantedTo (l : Lock) (q : Port) : Lock :=
  { l with owner := some q, pending := l.pending.set q none, counter := loadedLease l.lease }

/-- Port p + k is the first pending port of a lock in the order p + 1, p + 2 and so on, wrapping from 7 to 0, and holds a tag (R120). -/
abbrev Lock.nextAfter (l : Lock) (p k : Port) (tag : Tag) : Prop :=
  k ≠ 0 ∧ l.pending[p + k] = some tag ∧ ∀ j : Port, j ≠ 0 → j < k → l.pending[p + j] = none

/-- A record is no ALERT. -/
def Record.isNoAlert : Record → Bool
  | .alert _ _ _ _ => false
  | _ => true

/-- The records that the expiry of lock n's lease adds to port q's queue: LEASE_LOST where q is the owner; GRANT, with the tag held, where q is the first pending port in the order after the owner (R120, R124). -/
def Lock.expiryRecords (l : Lock) (n : LockId) (q : Port) : List Record :=
  match l.owner, l.pending[q] with
  | some p, held =>
      if p = q then [.leaseLost n]
      else match held with
        | some tag => if ∀ j : Port, (j - p - 1).val < (q - p - 1).val → l.pending[j] = none then [.grant n tag] else []
        | none => []
  | none, _ => []

/-- The locks whose leases expire at the next tick, by rising number (R124, R128). -/
def State.expiring (s : State) : List LockId := (List.finRange 32).filter fun n => (s.lock n).counter = some 1

/-- What a latch holds after an occurrence (R180). -/
def Latch.after (l : Latch) (p : Port) (address : Option (BitVec 32)) : Latch :=
  if l.isSet then { l with count := if l.count = 65535 then 65535 else l.count + 1 }
  else { isSet := true, count := 1, firstPort := some p, firstAddress := address }

/-- A fence is a port's. -/
abbrev State.OwnsFence (s : State) (n : Port) : Prop :=
  match s.fence with
  | .none => False
  | .pending owner _ _ => owner = n
  | .held owner _ _ => owner = n

/-- Port n has left the lock unit: a lock it owned passes to the next pending port in ring order, its lease loaded and a GRANT made with the tag held, or is free where none is pending; where the port waited it waits no more; every other lock stands; no LEASE_LOST is made (R120, R121, R131). -/
abbrev State.LocksPassed (s t : State) (n : Port) : Prop :=
  (∀ x : LockId,
    ((s.lock x).owner = some n →
      ((∀ q : Port, (s.lock x).pending[q] = none) → t.lock x = { s.lock x with owner := none, counter := none })
        ∧ ∀ (k : Port) (held : Tag), (s.lock x).nextAfter n k held →
            t.lock x = (s.lock x).grantedTo (n + k) ∧ Record.grant x held ∈ (t.port (n + k)).outgoing)
    ∧ ((s.lock x).owner ≠ some n → t.lock x = { s.lock x with pending := (s.lock x).pending.set n none }))
  ∧ ∀ (q : Port) (x : LockId), Record.leaseLost x ∈ (t.port q).outgoing → Record.leaseLost x ∈ (s.port q).outgoing

/-- Port n has been reset: nothing of it is left in its queues, its engine, the walker and the locks; its locks are passed on; a fence it owned is ended, with every fenced flag clear, and any other leaves the flags as they were; its operation, waiting or taken, stays with its result marked for discard; its parameters and its count of requests accepted stand (R82, R131, R151, R169, R171). -/
abbrev State.PortCleared (s t : State) (n : Port) : Prop :=
  (t.port n).requestQueue = [] ∧ (t.port n).completionQueue = [] ∧ (t.port n).dataSlot = none
    ∧ (t.port n).engine = Engine.idle ∧ (t.port n).wake = .normal
    ∧ (t.port n).timer = (if (s.port n).tickInterval = 0 then .stopped else .running (s.port n).tickInterval)
    ∧ (t.port n).cls = (s.port n).cls ∧ (t.port n).countThreshold = (s.port n).countThreshold
    ∧ (t.port n).heldThreshold = (s.port n).heldThreshold ∧ (t.port n).tickInterval = (s.port n).tickInterval
    ∧ (t.port n).requestsAccepted = (s.port n).requestsAccepted
    ∧ t.holdings n = 0 ∧ s.LocksPassed t n
    ∧ (∀ e ∈ t.walker.waitList, e.port ≠ n) ∧ (∀ i : SlotId, ∀ w ∈ (t.slot i).waiters, w.port ≠ n)
    ∧ (∀ i : SlotId, (t.slot i).offeredTo ≠ some n)
    ∧ (s.OwnsFence n → t.fence = .none ∧ ∀ q : Port, (t.port q).fenced = false)
    ∧ (¬s.OwnsFence n → ∀ q : Port, (t.port q).fenced = (s.port q).fenced)
    ∧ (∀ x : Target, ∀ op ∈ (t.arbiter x).waiting ++ (t.arbiter x).taken, op.requester = .engine n → op.discard = true)
    ∧ t.hasOp (.engine n) = s.hasOp (.engine n)

/-- The pieces that neither an access, a walk nor a lock changes: memory, windows, anchors, pool, timebase. -/
abbrev State.SameTables (s t : State) : Prop :=
  t.near = s.near ∧ t.pool = s.pool ∧ t.windows = s.windows ∧ t.anchors = s.anchors ∧ t.divide = s.divide ∧ t.prescaler = s.prescaler

/-- The locks and the count of lease expiries are as before. -/
abbrev State.SameLocks (s t : State) : Prop := t.locks = s.locks ∧ t.leaseExpiries = s.leaseExpiries

/-- The counts of hits, misses, walks started and stale walks are as before. -/
abbrev State.SameCounts (s t : State) : Prop :=
  t.cacheHits = s.cacheHits ∧ t.cacheMisses = s.cacheMisses ∧ t.walksStarted = s.walksStarted ∧ t.staleWalks = s.staleWalks

/-- The counts of hits and misses are as before. -/
abbrev State.SameLookups (s t : State) : Prop := t.cacheHits = s.cacheHits ∧ t.cacheMisses = s.cacheMisses

/-- A walk slot's operation that an arbiter has taken is outstanding (R63). -/
abbrev State.WalkerOut (t : State) : Prop := ∃ op ∈ t.nearArbiter.taken ++ t.poolArbiter.taken, ∃ i : SlotId, op.requester = .slot i

/-- In a device reset that drains in t: with no walker operation outstanding every walk slot is FREE, none waits for one, the pointer stands at port 7 and the walker's counters are 0; else the counters are as they were (R63; log 15 for the FREE slots' fields without meaning). -/
abbrev State.WalkerDrains (s t : State) : Prop :=
  (¬t.WalkerOut →
      t.walker = { slots := Vector.replicate 4 WalkSlot.empty, waitList := [], pointer := 7 } ∧ t.walksStarted = 0 ∧ t.staleWalks = 0)
    ∧ (t.WalkerOut → t.walksStarted = s.walksStarted ∧ t.staleWalks = s.staleWalks)

/-- No other port's record changes, unless a PENDING fence is told at this event that its ports are idle. -/
abbrev State.SameOthers (s t : State) (p : Port) : Prop :=
  (∀ owner tag set, s.fence ≠ .pending owner tag set) → t.fence = s.fence ∧ ∀ q : Port, q ≠ p → t.port q = s.port q

/-- A physical address lies in an enabled window of a kind (R67). -/
abbrev State.InWindow (s : State) (kind : WindowKind) (i : WindowId) (a : PhysAddress) : Prop :=
  s.windows[i].kind = kind ∧ s.windows[i].base.toNat ≤ s.windows[i].limit.toNat
    ∧ s.windows[i].base.toNat * 65536 ≤ a.toNat ∧ a.toNat ≤ s.windows[i].limit.toNat * 65536 + 65535

/-- A busy slot that is not stale walks a key. -/
abbrev State.Walks (s : State) (i : SlotId) (k : Key) : Prop := (s.slot i).phase ≠ .free ∧ (s.slot i).stale = false ∧ (s.slot i).key = k

/-- A slot may be given: FREE and offered to no port. -/
abbrev State.Open (s : State) (i : SlotId) : Prop := (s.slot i).phase = .free ∧ (s.slot i).offeredTo = none

/-- Slot i as it is given to port p for a key, in DESCRIPTOR (R45). -/
def State.givenSlot (s : State) (p : Port) (k : Key) (needsModified : Bool) : WalkSlot :=
  { WalkSlot.empty with
    phase := .descriptor, key := k, origin := p, tableBase := (s.anchor k.space).base
    setModified := needsModified, waiters := [⟨p, needsModified⟩]
    tableAddress := (s.anchor k.space).base + BitVec.ofNat 32 (8 * k.segment.toNat) }

/-- Port p's access request accepted and taken, its first portion current. -/
def State.begun (s : State) (p : Port) (tag : Tag) (ops : Operands) (portions : List Portion) : State :=
  s.modPort p fun r =>
    { r with
      requestsAccepted := r.requestsAccepted + 1
      engine := { Engine.idle with state := .translate, current := some ⟨tag, ops⟩, portions } }

/-- The reply of an access request, by a DONE record for a write, else by a DATA frame; then the transmitter's choice. -/
def State.accessReply (s : State) (p : Port) (tag : Tag) (ops : Operands) (st : Status) (fault : Option (BitVec 40)) (body : DataBody) : State :=
  s.modPort p fun r =>
    (if ops.writeData.isSome then r.replyDone tag st none none fault none ops.doneMark
      else r.replyData { tag, status := st, faultAddress := fault, body } ops.readFlush).report

/-- Port p's engine with its operation placed: it enters MEMORY, the operation waits at its arbiter, and the arbiters take what they can (R97, R79). -/
def State.placed (s : State) (p : Port) (t : Target) (addr : Nat) (kind : OpKind) (tr : Option Translation) : State :=
  ((s.modEngine p fun e => { e with state := .memory, translation := tr }).placeOp t
    { requester := .engine p, kind, addr, discard := false }).arbitersTake

/-- The operation of an access request's first portion: a read of its length, or a write of its bytes of the data. -/
def firstOperation (ops : Operands) (q : Portion) : OpKind :=
  match ops.writeData with
  | some data => .write (data.take q.len)
  | none => .read q.len

/-- The state after a lookup of a key that hits in a way: one more cache hit, the indicator naming the way (R25). -/
def State.afterHit (s : State) (k : Key) (way : Bool) : State :=
  { s with
    cache := s.cache.set (setIndex k) { s.cache[setIndex k] with recent := way }
    cacheHits := s.cacheHits + 1 }

/-- A way of a key's set holds a valid entry of the key with a translation (R24). -/
abbrev State.Holds (s : State) (k : Key) (way : Bool) (tr : Translation) : Prop :=
  (if way then s.cache[setIndex k].way1 else s.cache[setIndex k].way0) = some ⟨k, tr⟩

/-- No way of a key's set holds the key. -/
abbrev State.Lacks (s : State) (k : Key) : Prop :=
  (∀ e ∈ s.cache[setIndex k].way0, e.key ≠ k) ∧ ∀ e ∈ s.cache[setIndex k].way1, e.key ≠ k

/-- How many bytes an operation touches (R78). -/
def OpKind.bytes : OpKind → Nat
  | .read n => n
  | .write data => data.length
  | .mapUpdate _ => 4

/-- Two operations touch a common byte. -/
abbrev MemOp.Touches (a b : MemOp) : Prop := a.addr < b.addr + b.kind.bytes ∧ b.addr < a.addr + a.kind.bytes

/-- An operation is its requester's in a target's in-progress list, and the near store has none of the requester's when the target is the pool (R78). -/
abbrev State.TakenAt (s : State) (t : Target) (op : MemOp) : Prop :=
  (s.arbiter t).taken.find? (fun o => o.requester == op.requester) = some op
    ∧ (t = .external → ∀ o ∈ s.nearArbiter.taken, o.requester ≠ op.requester)

/-- The operations of a target taken before an operation. -/
def State.takenBefore (s : State) (t : Target) (op : MemOp) : List MemOp := (s.arbiter t).taken.takeWhile fun o => o.requester != op.requester

/-- An operation can complete: it is taken, and none taken before it touches a byte of its (R81). -/
abbrev State.CanComplete (s : State) (t : Target) (op : MemOp) : Prop := s.TakenAt t op ∧ ∀ o ∈ s.takenBefore t op, ¬o.Touches op

/-- An operation is held back: it is taken, the only one of its requester (R78), and one taken before it touches a byte of its (R81). -/
abbrev State.HeldBack (s : State) (t : Target) (op : MemOp) : Prop :=
  s.TakenAt t op ∧ (t = .near → ∀ o ∈ s.poolArbiter.taken, o.requester ≠ op.requester) ∧ ∃ o ∈ s.takenBefore t op, o.Touches op

/-- A command is the completion of an operation of its requester: an engine's, a slot's descriptor read or a slot's map update (R51, R54, R100). -/
abbrev State.CompletedBy (s : State) (op : MemOp) (c : Instr) : Prop :=
  match op.requester, op.kind with
  | .engine p, _ => c = .memoryOperationComplete p
  | .slot i, .mapUpdate _ => c = .mapUpdateComplete i ∧ (s.slot i).phase = .map
  | .slot i, _ => c = .descriptorReadComplete i ∧ (s.slot i).phase = .descriptor

/-- A target can accept an operation: no device reset in progress; the near store with none in progress, the READY pool with fewer than four (R80, R186). -/
abbrev State.Accepts (s : State) (t : Target) : Prop :=
  s.draining = false
    ∧ match t with
      | .near => s.nearArbiter.taken.length < 1
      | .external => s.pool.state = .ready ∧ s.poolArbiter.taken.length < 4

/-- No operation of a requester waits at a target's arbiter. -/
abbrev State.NoneWaits (s : State) (t : Target) (r : Requester) : Prop := ∀ o ∈ (s.arbiter t).waiting, o.requester ≠ r

/-- Port q comes before port r in the order p + 1, p + 2 and so on, wrapping from 7 to 0, p last (R47, R79). -/
abbrev comesFirst (p q r : Port) : Prop := (q - p - 1).val < (r - p - 1).val

/-- A target's arbiter after it has taken an operation that waits, with a new pointer. -/
def Arbiter.took (a : Arbiter) (op : MemOp) (pointer : Port) : Arbiter := { waiting := a.waiting.erase op, taken := a.taken ++ [op], pointer }

/-- Something that a device reset waits for: an operation taken, or a transmission (R187). -/
abbrev State.Outstanding (s : State) : Prop :=
  s.nearArbiter.taken ≠ [] ∨ s.poolArbiter.taken ≠ [] ∨ ∃ q : Port, (s.port q).transmitter ≠ none

/-- What the beginning of a device reset discards is gone: every queue and data slot, every operation not yet taken; with no operation taken at either target the arbiters' pointers stand at port 7 (R82, R153, R185). -/
abbrev State.Drains (t : State) : Prop :=
  t.deviceReset = .draining
    ∧ (∀ q : Port, (t.port q).requestQueue = [] ∧ (t.port q).completionQueue = [] ∧ (t.port q).dataSlot = none)
    ∧ t.nearArbiter.waiting = [] ∧ t.poolArbiter.waiting = [] ∧ (∀ i : SlotId, (t.slot i).waitingReady = false)
    ∧ (t.nearArbiter.taken = [] → t.poolArbiter.taken = [] → t.nearArbiter.pointer = 7 ∧ t.poolArbiter.pointer = 7)

/-- An engine as a device reset that begins leaves it: where it stands (R86), but that a PORT_RESET it waits on in MEMORY is discarded, the engine in MEMORY without a request (R185; log 21). -/
def Engine.standing (e : Engine) : Engine :=
  match e.state, e.current with
  | .memory, some ⟨_, .portReset _⟩ => { e with current := none }
  | _, _ => e

/-- A port as a device reset that begins leaves it: its waiting requests, its records and its data frame discarded, its engine standing, and everything else, its transmission and its count of requests accepted included, as it was (R86, R153, R162, R185). -/
def PortRec.swept (r : PortRec) : PortRec :=
  { r with requestQueue := [], completionQueue := [], dataSlot := none, engine := r.engine.standing }

/-- What the end of a fence that port n owned leaves: the record NONE and every fenced flag clear; any other fence and its flags stand (R169). -/
abbrev State.FenceLeft (s t : State) (n : Port) : Prop :=
  (s.OwnsFence n → t.fence = .none ∧ ∀ q : Port, (t.port q).fenced = false)
    ∧ (¬s.OwnsFence n → t.fence = s.fence ∧ ∀ q : Port, (t.port q).fenced = (s.port q).fenced)

/-- No request waits at a port other than n. -/
abbrev State.OthersHaveNone (s : State) (n : Port) : Prop := ∀ q : Port, q ≠ n → (s.port q).requestQueue = []

/-- A device reset has ended: every block has its power-on value but the near store, the pool and the links, and each port is ACTIVE or DOWN by its link (R187; logs 16 and 17 for the last two fields of a port, logs 15 and 32 for the fields without meaning of a FREE slot and an IDLE engine). -/
abbrev State.Restarts (s u : State) : Prop :=
  u = State.powerOn u.near u.pool u.ports s.pending s.freeCount
    ∧ ∀ q : Port,
        u.port q =
          { PortRec.powerOn q with
            link := (s.port q).link, state := if (s.port q).link = .up then .active else .down
            startUpLink := (s.port q).startUpLink, delivered := (s.port q).delivered }

/-- A run of bytes of a target written and every other byte as before, and the other target untouched. -/
abbrev State.Wrote (s u : State) (t : Target) (addr : Nat) (data : List Byte) : Prop :=
  (∀ x : Nat, (u.store t).byte x = if addr ≤ x ∧ x < addr + data.length then data.getD (x - addr) 0 else (s.store t).byte x)
    ∧ (∀ t' : Target, t' ≠ t → u.store t' = s.store t')

/-- The two stores and the failed bytes are as before. -/
abbrev State.SameMemory (s u : State) : Prop := u.near = s.near ∧ u.pool = s.pool

/-- What an operation does to the memory: a read nothing, a write its bytes; a map update of a resident entry sets used, and modified where it carries it, and one of an entry not resident or unreadable does nothing (R53, R73, R83). -/
abbrev State.Performed (s u : State) (t : Target) (op : MemOp) : Prop :=
  (∀ n, op.kind = .read n → s.SameMemory u)
    ∧ (∀ data, op.kind = .write data → s.Wrote u t op.addr data)
    ∧ ∀ (m : Bool) (word : BitVec 32), op.kind = .mapUpdate m → word.toNat = beNat ((s.store t).bytes op.addr 4) →
        (s.readFailure t op.addr 4 = none → word.getLsbD 31 = true →
          s.Wrote u t op.addr (beBytes 4 (word ||| 0x40000000#32 ||| (if m then 0x20000000#32 else 0#32)).toNat))
        ∧ (s.readFailure t op.addr 4 ≠ none ∨ word.getLsbD 31 = false → s.SameMemory u)

/-! #### What becomes of a portion -/

/-- The operation of the current portion: a read of its length, or a write of its bytes of the data, a second portion carrying what the first left (R97, R103). -/
def Engine.nextOperation (e : Engine) (ops : Operands) : OpKind :=
  match ops.writeData with
  | some data => .write (if e.second then data.drop (e.portions.headD default).len else data.take e.portion.len)
  | none => .read e.portion.len

/-- The status, the reason and the done count of a reply to a request whose current portion ends with a fault: the fault itself, or PARTIAL with the fault as reason and the first portion's length (R18, R93). -/
def Engine.faultStatus (e : Engine) (st : Status) : Status × Option Status × Option (BitVec 16) :=
  if e.second then (.partialDone, some st, some (BitVec.ofNat 16 (e.portions.headD default).len)) else (st, none, none)

/-- The DONE record of a write whose current portion faults, with the portion's first address (R103, R105). -/
def Engine.faultRecord (e : Engine) (c : Current) (st : Status) : Record :=
  .done c.tag (e.faultStatus st).1 (e.faultStatus st).2.1 (e.faultStatus st).2.2 (some (e.portion.addr.setWidth 40)) none c.ops.doneMark

/-- The DATA frame of any other access request whose current portion faults, a second portion's with the bytes of the first (R102, R106). -/
def Engine.faultFrame (e : Engine) (c : Current) (st : Status) : SlotFrame :=
  { frame :=
      { tag := c.tag, status := (e.faultStatus st).1, reason := (e.faultStatus st).2.1, doneCount := (e.faultStatus st).2.2
        faultAddress := some (e.portion.addr.setWidth 40), body := if e.second then .bytes e.readData else .empty }
    flush := c.ops.readFlush }

/-- A port's record after the reply of its request, whose current portion faults. -/
def PortRec.faulted (r : PortRec) (c : Current) (st : Status) : PortRec :=
  if c.ops.writeData.isSome then
    r.replyDone c.tag (r.engine.faultStatus st).1 (r.engine.faultStatus st).2.1 (r.engine.faultStatus st).2.2
      (some (r.engine.portion.addr.setWidth 40)) none c.ops.doneMark
  else r.replyData (r.engine.faultFrame c st).frame c.ops.readFlush

/-- A port's record holds or sends the reply of a request whose portion, current in engine e, faults. -/
abbrev PortRec.Tells (r : PortRec) (e : Engine) (c : Current) (st : Status) : Prop :=
  if c.ops.writeData.isSome then e.faultRecord c st ∈ r.outgoing ∧ r.engine = Engine.idle
  else r.dataSlot = some (e.faultFrame c st) ∨ r.transmitter = some (.data (e.faultFrame c st).frame)
    ∨ r.engine.pendingFrame = some (e.faultFrame c st)

/-- Port p's portion, current in s, ends in u with a fault: its request is replied to, and the transmitter chooses. -/
abbrev State.FaultsWith (s u : State) (p : Port) (c : Current) (st : Status) : Prop := u.port p = ((s.port p).faulted c st).report

/-- Port p's engine, as it stands in s, is in u in another state with a translation in use, and nothing else of the port has changed. -/
abbrev State.GoesTo (s u : State) (p : Port) (st : EngineState) (tr : Option Translation) : Prop :=
  u.port p = { s.port p with engine := { (s.port p).engine with state := st, translation := tr } }

/-- Port p's operation of its current portion stands in u with the arbiter of a target, waiting or taken. -/
abbrev State.Placed (s u : State) (p : Port) (c : Current) (t : Target) (addr : Nat) : Prop :=
  ({ requester := .engine p, kind := (s.port p).engine.nextOperation c.ops, addr, discard := false } : MemOp)
    ∈ (u.arbiter t).waiting ++ (u.arbiter t).taken

/-- The issue of port p's portion at a physical address decoded for a class: REFUSED, a wait for READY, or its operation placed (R16, R97). -/
abbrev State.Issues (s u : State) (p : Port) (c : Current) (a : PhysAddress) (k : PortClass) (tr : Option Translation) : Prop :=
  match s.decode a k with
  | .refused => s.FaultsWith u p c .refused
  | .near x => s.GoesTo u p .memory tr ∧ s.Placed u p c .near x.toNat
  | .external x =>
      if s.pool.state = .initializing then s.GoesTo u p .poolWait tr else s.GoesTo u p .memory tr ∧ s.Placed u p c .external x.toNat

/-- The guard of a translation lets port p's request through: it is no write, or the guard is none or a lock the port owns (R15, R98). -/
abbrev State.GuardLets (s : State) (p : Port) (c : Current) (tr : Translation) : Prop :=
  c.ops.writeData = none ∨ ∀ n ∈ tr.guard, (s.lock n).owner = some p

/-- Port p's portion goes on with a translation in hand: check 4 (RIGHTS), the answer of a PROBE, check 5 (LOCK_HELD), then the issue under the port's class (R13 to R16, R96 to R98, R101). -/
abbrev State.ProceedsWith (s u : State) (p : Port) (c : Current) (tr : Translation) : Prop :=
  if (tr.rightsFor (s.port p).cls).permits c.ops.translatesWrite = false then s.FaultsWith u p c .rights
  else match c.ops with
    | .probe _ =>
        u.port p =
          ((s.port p).replyData
            { tag := c.tag, status := .ok
              body := .probe tr (s.decode (tr.frame ++ offsetOf (s.port p).engine.portion.addr) (s.port p).cls) }).report
    | _ =>
        if s.GuardLets p c tr then s.Issues u p c (tr.frame ++ offsetOf (s.port p).engine.portion.addr) (s.port p).cls (some tr)
        else s.FaultsWith u p c .lockHeld

/-- Every waiter of slot i with a request is told a fault, each in its own reply, where no port waits twice (R56, R57). -/
abbrev State.TellsWaiters (s u : State) (i : SlotId) (st : Status) : Prop :=
  ((s.slot i).waiters.map Waiter.port).Nodup → ∀ w ∈ (s.slot i).waiters, ∀ c, (s.port w.port).engine.current = some c →
    (u.port w.port).Tells (s.port w.port).engine c st

/-- Every waiter of slot i with a request ends its portion with a fault, and no other port changes, where no port waits twice. -/
abbrev State.FaultsWaiters (s u : State) (i : SlotId) (st : Status) : Prop :=
  ((s.slot i).waiters.map Waiter.port).Nodup →
    (∀ w ∈ (s.slot i).waiters, ∀ c, (s.port w.port).engine.current = some c → s.FaultsWith u w.port c st)
      ∧ ∀ q : Port, (∀ w ∈ (s.slot i).waiters, w.port ≠ q) → u.port q = s.port q

/-- A port waits for a slot and holds no offer (R47). -/
abbrev State.Eligible (s : State) (q : Port) : Prop := (∃ e ∈ s.walker.waitList, e.port = q) ∧ ∀ j : SlotId, (s.slot j).offeredTo ≠ some q

/-- Port q is the first eligible one in ring order after the walker's pointer (R47). -/
abbrev State.NextEligible (s : State) (q : Port) : Prop := s.Eligible q ∧ ∀ r : Port, comesFirst s.walker.pointer r q → ¬s.Eligible r

/-- Slot i has become FREE and is offered to the next eligible port, which the pointer then names; to none where none is eligible (R47, R56). -/
abbrev State.FreesSlot (s u : State) (i : SlotId) : Prop :=
  (s.slot i).offeredTo = none →
    (∀ q : Port, s.NextEligible q → u.slot i = { WalkSlot.empty with offeredTo := some q } ∧ u.walker.pointer = q)
      ∧ ((∀ q : Port, ¬s.Eligible q) → u.slot i = WalkSlot.empty ∧ u.walker.pointer = s.walker.pointer)

/-- Slot i, whose offer has been declined, is offered to the next eligible port, which the pointer then names; to none where none is eligible (R47, R48). -/
abbrev State.Reoffers (s u : State) (i : SlotId) : Prop :=
  (s.slot i).phase = .free →
    (∀ q : Port, s.NextEligible q → (u.slot i).offeredTo = some q ∧ u.walker.pointer = q)
      ∧ ((∀ q : Port, ¬s.Eligible q) → (u.slot i).offeredTo = none ∧ u.walker.pointer = s.walker.pointer)

/-- A command brings a request to port p: the row of that request, its payload of a length the receiver lets pass, or a frame that passes the receiver's checks and carries the request; and the request is no BATCH_ACK (R159, R160). -/
abbrev BringsRequest (i : Instr) (p : Port) (r : Request) : Prop :=
  ¬(r.kind = 0x50 ∧ r.payload = [])
    ∧ ((i.request = some (p, r) ∧ r.payload.length ≤ 272)
      ∨ ∃ bytes : List Byte, i = .requestAdmission p bytes ∧ 6 ≤ bytes.length ∧ bytes.length - 6 ≤ 272
          ∧ frameCheck (bytes.take (bytes.length - 2)) = BitVec.ofNat 16 (payloadField bytes (bytes.length - 2) 2)
          ∧ payloadField bytes 2 2 = bytes.length - 6
          ∧ r = ⟨bytes.getD 0 0, bytes.getD 1 0, (bytes.drop 4).take (bytes.length - 6)⟩)

/-- A port receives the ALERT record of a latch that sets: ACTIVE, ADMINISTRATIVE, and none of the cause in its queue (R181). -/
abbrev PortRec.Alerted (r : PortRec) (c : AlertCause) : Prop :=
  r.state = .active ∧ r.cls = .administrative ∧ ∀ count port address, Record.alert c count port address ∉ r.completionQueue

/-- The requests that wait at a port do not. -/
def State.withoutQueue (s : State) (q : Port) : State := s.modPort q fun x => { x with requestQueue := [] }

/-- The fence record ended by an UNFENCE: FENCE_DONE with outcome CANCELLED to the owner of a PENDING one, then every fenced flag clear and the record NONE (R168). -/
def State.unfenced (s : State) : State :=
  (match s.fence with
    | .pending owner tag _ => ({ s with fence := .none } : State).addRecord owner (.fenceDone tag .cancelled)
    | _ => { s with fence := .none }).mapPorts fun _ r => { r with fenced := false }

/-- A number in a run of bytes, most significant first. -/
def bigEndian (n v : Nat) : List Byte := (List.range n).map fun i => BitVec.ofNat 8 (v / 256 ^ (n - 1 - i))

/-- The presence flags of reason, done count, fault address and value, bits 0 to 3 (R192, R194). -/
def flagsByte (reason done fault value : Bool) : Byte :=
  BitVec.ofNat 8 ((if reason then 1 else 0) + (if done then 2 else 0) + (if fault then 4 else 0) + (if value then 8 else 0))

/-- The bytes of a reason, a done count and a fault address that are present, in this order (R192, R194). -/
def presentFields (reason : Option Status) (done : Option (BitVec 16)) (fault : Option (BitVec 40)) : List Byte :=
  reason.elim [] (fun st => [st.code]) ++ done.elim [] (fun n => bigEndian 2 n.toNat) ++ fault.elim [] fun a => bigEndian 5 a.toNat

/-- The 37 counters in the order of the counter block: of each port requests accepted, faulted replies, frames discarded, overruns; then cache hits, cache misses, walks started, stale walks, lease expiries (R177). -/
def counterBlock (s : State) : List (BitVec 32) :=
  [(s.port 0).requestsAccepted, (s.port 0).faultedReplies, (s.port 0).framesDiscarded, (s.port 0).overruns,
    (s.port 1).requestsAccepted, (s.port 1).faultedReplies, (s.port 1).framesDiscarded, (s.port 1).overruns,
    (s.port 2).requestsAccepted, (s.port 2).faultedReplies, (s.port 2).framesDiscarded, (s.port 2).overruns,
    (s.port 3).requestsAccepted, (s.port 3).faultedReplies, (s.port 3).framesDiscarded, (s.port 3).overruns,
    (s.port 4).requestsAccepted, (s.port 4).faultedReplies, (s.port 4).framesDiscarded, (s.port 4).overruns,
    (s.port 5).requestsAccepted, (s.port 5).faultedReplies, (s.port 5).framesDiscarded, (s.port 5).overruns,
    (s.port 6).requestsAccepted, (s.port 6).faultedReplies, (s.port 6).framesDiscarded, (s.port 6).overruns,
    (s.port 7).requestsAccepted, (s.port 7).faultedReplies, (s.port 7).framesDiscarded, (s.port 7).overruns,
    s.cacheHits, s.cacheMisses, s.walksStarted, s.staleWalks, s.leaseExpiries]

end Sys2Proof.Machine

open Sys2Proof Sys2Proof.Machine

/-! ### The queue of commands -/

/-- A step takes the command at the front of the queue and carries it out on the state with the queue's rest; on an empty queue the block idles (logs 1 and 3: the queue is the model's). -/
def Obligations.StepTakesTheFrontCommand : Prop :=
  (∀ (c : Instr) (rest : List Instr) (s : State), step { s with pending := c :: rest } = exec c { s with pending := rest })
    ∧ ∀ s : State, s.pending = [] → step s = .next s

/-- No command halts the part: each answers a next state, and none touches the commands that wait (R19). -/
def Obligations.EveryCommandGoesOn : Prop := ∀ (c : Instr) (s : State), ∃ t, exec c s = .next t ∧ t.pending = s.pending

/-! ### Power-on -/

/-- What reset leaves in every block (power-on values of R3, R22, R41, R46, R47, R64, R67, R73, R74, R79, R80, R86, R113, R155, R161, R165, R174, R176, R179, R183; log 4: the state right after start-up with no link reported up, and no command waiting). Three fields of a port hold the model's value, which none of these rules states: the engine's current portion, first (log 32, DESIGN CHOICE); the frame last delivered, empty (log 16, DESIGN CHOICE); the link state last reported during start-up, DOWN (log 17). -/
def Obligations.ResetState : Prop :=
  (∀ p : Port,
      State.reset.port p =
        { link := .down, state := .down, cls := if p = 0 then .administrative else .user, fenced := false
          countThreshold := 1, heldThreshold := 8, tickInterval := 0, requestQueue := []
          engine :=
            { state := .idle, current := none, portions := [], second := false, translation := none, readData := [], pendingFrame := none }
          completionQueue := [], dataSlot := none, wake := .normal, timer := .stopped, transmitter := none
          requestsAccepted := 0, faultedReplies := 0, framesDiscarded := 0, overruns := 0, startUpLink := .down, delivered := [] })
    ∧ (∀ i : Fin 128, State.reset.cache[i] = { way0 := none, way1 := none, recent := false })
    ∧ (∀ i : SlotId,
        (State.reset.slot i).phase = .free ∧ (State.reset.slot i).stale = false ∧ (State.reset.slot i).setModified = false
          ∧ (State.reset.slot i).waiters = [] ∧ (State.reset.slot i).offeredTo = none)
    ∧ State.reset.walker.waitList = [] ∧ State.reset.walker.pointer = 7
    ∧ (∀ i : WindowId, State.reset.windows[i] = { base := 65535, limit := 0, kind := .exclude, target := 0 })
    ∧ (∀ a : Nat, State.reset.near.byte a = 0)
    ∧ State.reset.pool.state = .unset ∧ State.reset.pool.top = 0
    ∧ State.reset.nearArbiter = { waiting := [], taken := [], pointer := 7 }
    ∧ State.reset.poolArbiter = { waiting := [], taken := [], pointer := 7 }
    ∧ (∀ n : LockId, State.reset.lock n = { owner := none, pending := Vector.replicate 8 none, lease := 0, counter := none })
    ∧ (∀ i : Fin 8, State.reset.anchors[i] = { base := 0, length := 0, mask := 0 })
    ∧ State.reset.fence = .none ∧ State.reset.deviceReset = .none
    ∧ (∀ i : Fin 6, State.reset.latches[i] = { isSet := false, count := 0, firstPort := none, firstAddress := none })
    ∧ State.reset.divide = 49 ∧ State.reset.prescaler = 0
    ∧ State.reset.cacheHits = 0 ∧ State.reset.cacheMisses = 0 ∧ State.reset.walksStarted = 0 ∧ State.reset.staleWalks = 0
    ∧ State.reset.leaseExpiries = 0 ∧ State.reset.pending = []

/-- Every law of Safety.lean holds at reset. -/
def Obligations.LawsHoldAtReset : Prop :=
  State.reset.MemoryCanonical ∧ State.reset.QueueLaw ∧ State.reset.ClassLaw ∧ State.reset.CoalescingLaw ∧ State.reset.LockLaw
    ∧ State.reset.HoldingsLaw ∧ State.reset.CacheLaw ∧ State.reset.WalkLaw ∧ State.reset.PoolLaw ∧ State.reset.AnchorLaw
    ∧ State.reset.WindowLaw ∧ State.reset.TimebaseLaw ∧ State.reset.LatchLaw ∧ State.reset.QueueBudget ∧ State.reset.Settled

/-- Power-on reset stops every block at once and holds it: operations and transmissions in progress are gone, and no other command has an effect until the release. The release starts every block at its power-on value. During start-up a link's report is kept, the last one standing; at its end the near store is zero in every byte, each link last reported up gives its link-up report, and nothing else changes (R189; the moment at which the near store is zeroed and what is gone at the assertion itself are log 14's; the values of the fields current portion, last delivered frame, last link state reported and of a FREE slot without meaning are those of logs 32, 16, 17 and 15; log 2: a release of an input that is not held and an end of start-up outside start-up are no events). -/
def Obligations.PowerOnResetAndStartUp : Prop :=
  ∀ s : State,
    (∃ t, exec .powerOnResetAssert s = .next t ∧ t.power = .held
      ∧ t.nearArbiter.waiting = [] ∧ t.nearArbiter.taken = [] ∧ t.poolArbiter.waiting = [] ∧ t.poolArbiter.taken = []
      ∧ (∀ p : Port, (t.port p).transmitter = none)
      ∧ ∀ c : Instr, c ≠ .powerOnResetAssert → c ≠ .powerOnResetRelease → exec c t = .next t)
    ∧ (s.power = .held →
        exec .powerOnResetRelease s =
          .next { State.powerOn s.near Pool.powerOn portsPowerOn s.pending s.freeCount with power := .startUp })
    ∧ (s.power ≠ .held → exec .powerOnResetRelease s = .next s)
    ∧ (s.power ≠ .startUp → exec .startUpEnd s = .next s)
    ∧ (s.power = .startUp →
        (∀ p : Port, exec (.linkUp p) s = .next (s.modPort p fun r => { r with startUpLink := .up }))
        ∧ (∀ p : Port, exec (.linkDown p) s = .next (s.modPort p fun r => { r with startUpLink := .down }))
        ∧ ∃ t, exec .startUpEnd s = .next t ∧ (∀ a : Nat, t.near.byte a = 0)
            ∧ (∀ p : Port, (s.port p).startUpLink = .down → t.port p = s.port p)
            ∧ (∀ p : Port, (s.port p).startUpLink = .up → (s.port p).link = .down → (s.port p).state = .down → s.draining = false →
                t.port p = { s.port p with link := .up, state := .active })
            ∧ t = { s with power := .operating, near := t.near, ports := t.ports })

/-! ### Links, frames, transmissions -/

/-- A link-up report makes a DOWN port ACTIVE at once and a RESETTING port stays RESETTING (R157; that a port DOWN has empty queues and a free transmitter is what its last reset left); a report equal to the link state held changes nothing (R158). During a device reset it changes the link state alone (R157, R186). -/
def Obligations.LinkUpActivatesAPort : Prop :=
  (∀ (s : State) (p : Port), s.Quiet →
    ((s.port p).link = .up → exec (.linkUp p) s = .next s)
    ∧ ((s.port p).link = .down → (s.port p).state = .resetting → exec (.linkUp p) s = .next (s.modPort p fun r => { r with link := .up }))
    ∧ ((s.port p).link = .down → (s.port p).state = .down → (s.port p).completionQueue = [] → (s.port p).dataSlot = none →
        exec (.linkUp p) s = .next (s.modPort p fun r => { r with link := .up, state := .active })))
  ∧ ∀ (s : State) (p : Port), s.power = .operating → s.draining = true → s.AtRest →
      ((s.port p).link = .up → exec (.linkUp p) s = .next s)
      ∧ ((s.port p).link = .down → exec (.linkUp p) s = .next (s.modPort p fun r => { r with link := .up }))

/-- A link-down report at an ACTIVE port resets it: the link is DOWN, the transmission is lost, every block lets go of what it held for the port, requests that wait at it, which get no reply and stay counted as accepted, included, its locks pass on or are free, a fence it owned ends, its operation goes on with its result marked for discard, the port is DOWN, or RESETTING while an operation of it is outstanding, and the LINK_LOST latch takes one occurrence; memory, cache, windows, anchors and the other latches stand (R82, R131, R151, R152, R158, R162, R169, R171, R172, R180); stated with no request waiting at another port. At a RESETTING port only the occurrence and the link state follow; a report equal to the link state held changes nothing (R158). Where a device reset is announced for the port it begins at this event, after the occurrence (log 25), and ends at once or drains, the requests that wait at any port discarded and still counted as accepted (R63, R162, R185, R187). That it begins before any free transmitter chooses, so that every other transmitter stands as before and with nothing outstanding the device reset ends at once, is the model's choice (log 29, DESIGN CHOICE). While the part drains the reset port's engine is IDLE (R171) and every other engine stands where it is (R86), but that a PORT_RESET waited on is discarded (R185; that its engine then stands in MEMORY without a request is log 21, DEDUCED). At its end the model's own fields stand as logs 15, 16, 17 and 32 say. During a device reset the report changes the link state and abandons the transmission, and nothing else (R158, R186); DeviceResetBegins states the one that ends it. -/
def Obligations.LinkDownResetsAPort : Prop :=
  (∀ (s : State) (p : Port), s.Resting → s.OthersHaveNone p → s.LockLaw → (s.port p).link = .up → s.deviceReset ≠ .announced p →
    ((s.port p).state = .active →
      ∃ t, exec (.linkDown p) s = .next t ∧ s.PortCleared t p ∧ (t.port p).link = .down ∧ (t.port p).transmitter = none
        ∧ (t.port p).state = (if s.hasOp (.engine p) then .resetting else .down)
        ∧ t.latch .linkLost = (s.latch .linkLost).after p none ∧ (∀ c, c ≠ .linkLost → t.latch c = s.latch c)
        ∧ s.SameTables t ∧ t.cache = s.cache ∧ s.SameCounts t ∧ t.leaseExpiries = s.leaseExpiries)
    ∧ ((s.port p).state = .resetting →
        ∃ t, exec (.linkDown p) s = .next t ∧ (t.port p).link = .down ∧ (t.port p).state = .resetting ∧ (t.port p).transmitter = none
          ∧ t.latch .linkLost = (s.latch .linkLost).after p none ∧ (∀ c, c ≠ .linkLost → t.latch c = s.latch c)
          ∧ s.SameLocks t ∧ s.SameTables t ∧ t.cache = s.cache ∧ s.SameCounts t ∧ t.walker = s.walker))
  ∧ (∀ (s : State) (p : Port), s.Resting → (s.port p).link = .up → s.deviceReset = .announced p → (s.port p).state = .active →
      (s.nearArbiter.taken = [] → s.poolArbiter.taken = [] → (∀ q : Port, q ≠ p → (s.port q).transmitter = none) →
        ∃ t, exec (.linkDown p) s = .next t ∧ (s.modPort p fun r => { r with link := .down }).Restarts t ∧ s.SameMemory t)
      ∧ (s.nearArbiter.taken ≠ [] ∨ s.poolArbiter.taken ≠ [] ∨ (∃ q : Port, q ≠ p ∧ (s.port q).transmitter ≠ none) →
          ∃ t, exec (.linkDown p) s = .next t ∧ t.Drains ∧ (t.port p).link = .down ∧ (t.port p).transmitter = none
            ∧ (t.port p).engine = Engine.idle ∧ (t.port p).requestsAccepted = (s.port p).requestsAccepted
            ∧ (∀ q : Port, q ≠ p → t.port q = { (s.port q).swept with fenced := (t.port q).fenced }) ∧ s.FenceLeft t p
            ∧ t.latch .linkLost = (s.latch .linkLost).after p none
            ∧ s.SameTables t ∧ t.cache = s.cache ∧ s.SameLookups t ∧ s.WalkerDrains t))
  ∧ ∀ (s : State) (p : Port), s.power = .operating → s.AtRest →
      ((s.port p).link = .down → exec (.linkDown p) s = .next s)
      ∧ ((s.port p).link = .up → s.draining = true → (s.modPort p fun r => { r with transmitter := none }).Outstanding →
          exec (.linkDown p) s = .next (s.modPort p fun r => { r with link := .down, transmitter := none }))

/-- A BATCH_ACK taken makes the wake state NORMAL, and the batch-due test is made again; nothing else changes, whatever the port's class and fence (R144). -/
def Obligations.BatchAckMakesTheStateNormal : Prop :=
  ∀ (s : State) (p : Port) (tag : Tag), s.Quiet → (s.port p).state = .active →
    exec (.batchAck p tag) s = .next (s.modPort p fun r => { r with wake := .normal }.report)
      ∧ ((s.port p).wake = .normal → exec (.batchAck p tag) s = .next s)

/-- The completion of a transmission delivers the frame's bytes to the link, frees the transmitter, lets a PENDING fence test its ports and lets the transmitter choose again; with none in progress there is no such event (R149, R148, R167; logs 2 and 16). -/
def Obligations.TransmissionCompleteFreesTheTransmitter : Prop :=
  ∀ (s : State) (p : Port), s.Quiet →
    (∀ f, (s.port p).transmitter = some f → ¬(f.announcesReset = true ∧ s.deviceReset = .announced p) →
      exec (.transmissionComplete p) s =
        .next (s.modPort p fun r => { r with transmitter := none, delivered := f.encode }).fenceTest.reportAll)
    ∧ ((s.port p).transmitter = none → exec (.transmissionComplete p) s = .next s)

/-- The frame that carries a request is read back, header, payload and check, as it was formed (R159, R160, R190). That REQUEST_ADMISSION of this frame does what the request's own command does, in every state, is the model's choice: a request's command is the arrival of its frame (log 1, DESIGN CHOICE), which these rules do not say. -/
def Obligations.RequestFramesAreRequests : Prop :=
  ∀ (c : Instr) (p : Port) (r : Request) (s : State), c.request = some (p, r) → r.payload.length ≤ 272 →
    readFrame r.frame = some r ∧ exec (.requestAdmission p r.frame) s = exec c s

/-- The receiver of an ACTIVE port discards a frame that is too short, fails its check, has a wrong length field or too long a payload: one more frame discarded, one LINK_DISCARD occurrence, nothing else. Every other frame but a BATCH_ACK is a request offered for admission. With 8 requests and fewer than 24 records in the port's queues it is refused BUSY by a record that is no reply; with 8 and 24 or more it is discarded, one overrun more and one OVERRUN occurrence; with fewer than 8 it is accepted, and while the engine is busy it waits in the queue and nothing else changes (R88, R159, R160, R161). An occurrence: none in a device reset; at a set latch the count alone; at a clear latch the latch sets, and each ACTIVE ADMINISTRATIVE port with no ALERT record of the cause in its queue gets one (R179, R180, R181). -/
def Obligations.ReceiverRules : Prop :=
  (∀ (s : State) (p : Port) (bytes : List Byte), s.Quiet → (s.port p).state = .active →
      bytes.length < 6 ∨ frameCheck (bytes.take (bytes.length - 2)) ≠ BitVec.ofNat 16 (payloadField bytes (bytes.length - 2) 2)
          ∨ payloadField bytes 2 2 ≠ bytes.length - 6 ∨ bytes.length - 6 > 272 →
      exec (.requestAdmission p bytes) s =
          .next ((s.modPort p fun r => { r with framesDiscarded := r.framesDiscarded + 1 }).occurrence .linkDiscard p none).reportAll
        ∧ (((s.modPort p fun r => { r with framesDiscarded := r.framesDiscarded + 1 }).occurrence .linkDiscard p none).reportAll).latch .linkDiscard
            = (s.latch .linkDiscard).after p none)
  ∧ (∀ (s : State) (p : Port) (r : Request) (c : Instr), s.power = .operating → s.draining = false → s.AtRest → (s.port p).state = .active →
      BringsRequest c p r →
      ((s.port p).requestQueue.length < 8 → (s.port p).engine.state ≠ .idle →
        exec c s = .next (s.modPort p fun x => { x with requestQueue := x.requestQueue ++ [r], requestsAccepted := x.requestsAccepted + 1 }))
      ∧ ((s.port p).requestQueue.length = 8 → (s.port p).completionQueue.length < 24 →
          ((s.port p).transmitter = none → (s.port p).engine.pendingFrame = none) →
          exec c s =
            .next (s.modPort p fun x =>
              ({ x with completionQueue := x.completionQueue ++ [.done r.tag .busy none none none none .plain] } : PortRec).report))
      ∧ ((s.port p).requestQueue.length = 8 → 24 ≤ (s.port p).completionQueue.length →
          (∀ q : Port, (s.port q).transmitter = none → (s.port q).engine.pendingFrame = none) →
          exec c s = .next ((s.modPort p fun x => { x with overruns := x.overruns + 1 }).occurrence .overrun p none).reportAll))
  ∧ ∀ (s : State) (c : AlertCause) (p : Port) (a : Option (BitVec 32)),
      (s.draining = true → s.occurrence c p a = s)
      ∧ (s.draining = false →
          (s.occurrence c p a).latch c = (s.latch c).after p a ∧ (∀ d : AlertCause, d ≠ c → (s.occurrence c p a).latch d = s.latch d)
            ∧ s.occurrence c p a = { s with latches := (s.occurrence c p a).latches, ports := (s.occurrence c p a).ports }
            ∧ ∀ q : Port,
                ((s.latch c).isSet = false → (s.port q).Alerted c →
                  (s.occurrence c p a).port q =
                    { s.port q with completionQueue := (s.port q).completionQueue ++ [.alert c 1 (some p) a] })
                ∧ ((s.latch c).isSet = true ∨ ¬(s.port q).Alerted c → (s.occurrence c p a).port q = s.port q))

/-- A frame that reaches a port that is not ACTIVE, or any port during a device reset, is discarded without examination: nothing changes (R156, R159, R186; log 2 for a port that is DOWN). -/
def Obligations.ClosedPortsDiscardFrames : Prop :=
  ∀ (s : State) (p : Port), s.power = .operating → s.AtRest → (s.port p).state ≠ .active ∨ s.draining = true →
    (∀ bytes : List Byte, exec (.requestAdmission p bytes) s = .next s)
      ∧ ∀ (c : Instr) (r : Request), c.request = some (p, r) → exec c s = .next s

/-! ### Requests that end at their taking

Each is stated for a port whose engine takes the request at the event of its arrival: State.Ready, a condition on the state alone. -/

/-- A request of unknown kind or of a length its kind does not allow completes MALFORMED, in a DATA frame where the kind is one that a DATA frame answers (R89, R191, R192; log 24). -/
def Obligations.MalformedRequestsAreAnswered : Prop :=
  ∀ (s : State) (p : Port) (kind : Byte) (tag : Tag) (payload : List Byte), s.Ready p →
    readOperands ⟨kind, tag, payload⟩ = none → ¬(kind = 0x50 ∧ payload = []) → payload.length ≤ 272 →
    exec (.malformedRequest p kind tag payload) s =
      .next (if kind ∈ ([0x10, 0x12, 0x18, 0x23, 0x41] : List Byte) then
          s.answeredData p ⟨kind, tag, payload⟩ { tag, status := .malformed }
        else s.answered p tag .malformed)

/-- An administrative request from a USER port completes NOT_PERMITTED and changes nothing, in a DATA frame for PHYS_READ and COUNTERS (R89, R163). -/
def Obligations.UserPortsAreNotPermitted : Prop :=
  ∀ (s : State) (p : Port) (c : Instr) (r : Request) (ops : Operands), s.Ready p → (s.port p).cls = .user →
    c.request = some (p, r) → r.payload.length ≤ 272 → readOperands r = some ops → ops.administrative = true →
    exec c s =
      .next (if r.kind = 0x18 ∨ r.kind = 0x41 then s.answeredData p r { tag := r.tag, status := .notPermitted }
        else s.answered p r.tag .notPermitted)

/-- LOCK, decided at one event in the order of its rule: ALREADY_HELD, LIMIT, OK with the lease loaded, or QUEUED with the tag kept; a lock number above 31 completes MALFORMED with the lock table as it was (R114, R115, R121). -/
def Obligations.LockDecision : Prop :=
  ∀ (s : State) (p : Port) (tag : Tag) (n : LockId), s.Ready p →
    ((s.lock n).owner = some p ∨ (s.lock n).pending[p] ≠ none →
      exec (.lock p tag (.ofNat 8 n.val)) s = .next (s.answered p tag .alreadyHeld))
    ∧ ((s.lock n).owner ≠ some p → (s.lock n).pending[p] = none → 4 ≤ s.holdings p →
        exec (.lock p tag (.ofNat 8 n.val)) s = .next (s.answered p tag .limit))
    ∧ ((s.lock n).owner = none → (s.lock n).pending[p] = none → s.holdings p < 4 →
        exec (.lock p tag (.ofNat 8 n.val)) s =
          .next ((s.setLock n { s.lock n with owner := some p, counter := loadedLease (s.lock n).lease }).answered p tag .ok))
    ∧ (∀ q : Port, (s.lock n).owner = some q → q ≠ p → (s.lock n).pending[p] = none → s.holdings p < 4 →
        exec (.lock p tag (.ofNat 8 n.val)) s =
          .next ((s.setLock n { s.lock n with pending := (s.lock n).pending.set p (some tag) }).answered p tag .queued))
    ∧ (∀ x : Byte, 31 < x.toNat → exec (.lock p tag x) s = .next (s.answered p tag .malformed))

/-- UNLOCK: by the owner, the lock passes at the same event to the next pending port in ring order, with its lease loaded and a GRANT record with the tag it waited under, or becomes free; by any other port NOT_OWNER, the lock unchanged; a lock number above 31 completes MALFORMED with the lock table as it was (R114, R116, R120, R121). -/
def Obligations.UnlockPassesTheLockOn : Prop :=
  ∀ (s : State) (p : Port) (tag : Tag) (n : LockId), s.Ready p →
    ((s.lock n).owner ≠ some p → exec (.unlock p tag (.ofNat 8 n.val)) s = .next (s.answered p tag .notOwner))
    ∧ ((s.lock n).owner = some p → (∀ q : Port, (s.lock n).pending[q] = none) →
        exec (.unlock p tag (.ofNat 8 n.val)) s =
          .next ((s.setLock n { s.lock n with owner := none, counter := none }).answered p tag .ok))
    ∧ (∀ (k : Port) (held : Tag), (s.lock n).owner = some p → (s.lock n).nextAfter p k held →
        exec (.unlock p tag (.ofNat 8 n.val)) s =
          .next (((s.setLock n ((s.lock n).grantedTo (p + k))).modPort (p + k) fun r => (r.addRecord (.grant n held)).report).answered
            p tag .ok))
    ∧ (∀ x : Byte, 31 < x.toNat → exec (.unlock p tag x) s = .next (s.answered p tag .malformed))

/-- LOCK_WITHDRAW: a pending port leaves the pending set and completes OK; any other completes NOT_PENDING, the lock unchanged; a lock number above 31 completes MALFORMED with the lock table as it was (R114, R117). -/
def Obligations.LockWithdrawLeavesTheSet : Prop :=
  ∀ (s : State) (p : Port) (tag : Tag) (n : LockId), s.Ready p →
    ((s.lock n).pending[p] ≠ none →
      exec (.lockWithdraw p tag (.ofNat 8 n.val)) s =
        .next ((s.setLock n { s.lock n with pending := (s.lock n).pending.set p none }).answered p tag .ok))
    ∧ ((s.lock n).pending[p] = none → exec (.lockWithdraw p tag (.ofNat 8 n.val)) s = .next (s.answered p tag .notPending))
    ∧ (∀ x : Byte, 31 < x.toNat → exec (.lockWithdraw p tag x) s = .next (s.answered p tag .malformed))

/-- LOCK_QUERY reports the owner, the pending ports, the lease setting and the lease remaining in ms, rounded up, 0 for none; it changes no lock. A lock number above 31 is answered MALFORMED by a DATA frame without lock block (R114, R118). -/
def Obligations.LockQueryReports : Prop :=
  ∀ (s : State) (p : Port) (tag : Tag), s.Ready p →
    (∀ (n : LockId) (waiting : BitVec 8) (remaining : BitVec 16),
      (∀ q : Port, waiting.getLsbD q.val = (s.lock n).pending[q].isSome) →
      (match (s.lock n).counter with
        | none => remaining = 0
        | some ticks => remaining = BitVec.ofNat 16 ((ticks + 999) / 1000)) →
      exec (.lockQuery p tag (.ofNat 8 n.val)) s =
        .next (s.answeredData p ⟨0x23, tag, [.ofNat 8 n.val]⟩
          { tag, status := .ok, body := .lock (s.lock n).owner waiting (s.lock n).lease remaining }))
    ∧ (∀ x : Byte, 31 < x.toNat →
        exec (.lockQuery p tag x) s = .next (s.answeredData p ⟨0x23, tag, [x]⟩ { tag, status := .malformed }))

/-- SET_LOCK from an ADMINISTRATIVE port gives the lock its new setting and nothing else; a lease above 60000 completes MALFORMED; from a USER port it completes NOT_PERMITTED; a lock number above 31 completes MALFORMED with the lock table as it was (R114, R119). -/
def Obligations.SetLockGivesTheSetting : Prop :=
  ∀ (s : State) (p : Port) (tag : Tag) (n : LockId) (lease : BitVec 16), s.Ready p →
    ((s.port p).cls = .user → exec (.setLock p tag (.ofNat 8 n.val) lease) s = .next (s.answered p tag .notPermitted))
    ∧ ((s.port p).cls = .administrative → 60000 < lease.toNat →
        exec (.setLock p tag (.ofNat 8 n.val) lease) s = .next (s.answered p tag .malformed))
    ∧ ((s.port p).cls = .administrative → lease.toNat ≤ 60000 →
        exec (.setLock p tag (.ofNat 8 n.val) lease) s = .next ((s.setLock n { s.lock n with lease }).answered p tag .ok))
    ∧ (∀ x : Byte, (s.port p).cls = .administrative → 31 < x.toNat →
        exec (.setLock p tag x lease) s = .next (s.answered p tag .malformed))

/-- SET_ANCHOR: operands in range replace the three fields of the named anchor and purge its space, completing OK without value; operands out of range complete MALFORMED and change nothing (R4, R5, R40). What State.purge does is stated by PurgeRemovesItsScope. -/
def Obligations.SetAnchorReplacesAndPurges : Prop :=
  ∀ (s : State) (p : Port) (tag : Tag) (space : Byte) (base : BitVec 32) (length : BitVec 16) (mask : BitVec 8), s.Ready p →
    (s.port p).cls = .administrative →
    (7 < space.toNat ∨ 512 < length.toNat ∨ base.toNat % 8 ≠ 0 ∨ 2 ^ 32 < base.toNat + 8 * length.toNat →
      exec (.setAnchor p tag space base length mask) s = .next (s.answered p tag .malformed))
    ∧ (∀ h : space.toNat < 8, length.toNat ≤ 512 → base.toNat % 8 = 0 → base.toNat + 8 * length.toNat ≤ 2 ^ 32 →
        exec (.setAnchor p tag space base length mask) s =
          .next ((({ s with anchors := s.anchors.set space.toNat { base, length := length.toNat, mask } } : State).purge
            fun k => k.space.toNat == space.toNat).answered p tag .ok))

/-- PURGE: scope codes 0 to 3 name ALL, a SPACE, a SEGMENT, a PAGE; operands in range purge the keys of the scope and answer OK with the number of entries removed; others complete MALFORMED (R36, R37, R191). -/
def Obligations.PurgeAnswersTheNumber : Prop :=
  ∀ (s : State) (p : Port) (tag : Tag) (scope space : Byte) (segment page : BitVec 16), s.Ready p → (s.port p).cls = .administrative →
    (3 < scope.toNat ∨ (1 ≤ scope.toNat ∧ 7 < space.toNat) ∨ (2 ≤ scope.toNat ∧ 511 < segment.toNat) ∨ (scope.toNat = 3 ∧ 255 < page.toNat) →
      exec (.purge p tag scope space segment page) s = .next (s.answered p tag .malformed))
    ∧ ∀ matched : Key → Bool,
        (∀ k : Key, matched k = true ↔
          (scope.toNat = 0 ∨ k.space.toNat = space.toNat) ∧ (scope.toNat ≤ 1 ∨ k.segment.toNat = segment.toNat)
            ∧ (scope.toNat ≤ 2 ∨ k.page.toNat = page.toNat)) →
        scope.toNat ≤ 3 → (1 ≤ scope.toNat → space.toNat ≤ 7) → (2 ≤ scope.toNat → segment.toNat ≤ 511) →
        (scope.toNat = 3 → page.toNat ≤ 255) →
        exec (.purge p tag scope space segment page) s =
          .next ((s.purge matched).answered p tag .ok (some (BitVec.ofNat 32 (s.purgeCount matched))))

/-- What a purge of a scope does: a matching valid entry is gone, every other way and every recent-way indicator stands, each busy slot of a matching key is stale and no other slot changes; nothing but the cache and the slots changes; the number is that of the matching valid entries (R37, R38, R59). -/
def Obligations.PurgeRemovesItsScope : Prop :=
  ∀ (s : State) (matched : Key → Bool),
    (∀ i : Fin 128,
      ((s.purge matched).cache[i]).recent = s.cache[i].recent
        ∧ (∀ e, ((s.purge matched).cache[i]).way0 = some e ↔ s.cache[i].way0 = some e ∧ matched e.key = false)
        ∧ (∀ e, ((s.purge matched).cache[i]).way1 = some e ↔ s.cache[i].way1 = some e ∧ matched e.key = false))
    ∧ (∀ i : SlotId,
        (s.purge matched).slot i =
          if (s.slot i).phase ≠ .free ∧ matched (s.slot i).key = true then { s.slot i with stale := true } else s.slot i)
    ∧ s.purge matched = { s with cache := (s.purge matched).cache, walker := { s.walker with slots := (s.purge matched).walker.slots } }
    ∧ s.purgeCount matched =
        ((List.finRange 128).map fun i : Fin 128 =>
          (if s.cache[i].way0.any fun e => matched e.key then 1 else 0)
            + (if s.cache[i].way1.any fun e => matched e.key then 1 else 0)).sum

/-- SET_WINDOW: operands in range replace all four fields, the target being 0 for a kind other than RELOCATE; others complete MALFORMED (R68, R69, R191). -/
def Obligations.SetWindowReplacesTheFields : Prop :=
  ∀ (s : State) (p : Port) (tag : Tag) (window kind : Byte) (base limit target : BitVec 16), s.Ready p → (s.port p).cls = .administrative →
    (7 < window.toNat ∨ 2 < kind.toNat
        ∨ (kind.toNat = 2 ∧ base.toNat ≤ limit.toNat ∧ 65535 < target.toNat + (limit.toNat - base.toNat)) →
      exec (.setWindow p tag window kind base limit target) s = .next (s.answered p tag .malformed))
    ∧ (∀ (h : window.toNat < 8) (k : WindowKind), windowKindOfCode kind = some k →
        ¬(k = .relocate ∧ base.toNat ≤ limit.toNat ∧ 65535 < target.toNat + (limit.toNat - base.toNat)) →
        exec (.setWindow p tag window kind base limit target) s =
          .next (({ s with windows := s.windows.set window.toNat { base, limit, kind := k, target := if k = .relocate then target else 0 } }
            : State).answered p tag .ok))
    ∧ windowKindOfCode 0 = some .protect ∧ windowKindOfCode 1 = some .exclude ∧ windowKindOfCode 2 = some .relocate

/-- SET_POOL: a size of 0 or above 4096 is MALFORMED in any state; outside UNSET it is NOT_PERMITTED; in UNSET pool top is size MiB, the pool is INITIALIZING, and the engine holds the request in POOL_WAIT without a reply (R75, R77). -/
def Obligations.SetPoolBeginsTheFill : Prop :=
  ∀ (s : State) (p : Port) (tag : Tag) (size : BitVec 16), s.Ready p → (s.port p).cls = .administrative →
    (size.toNat = 0 ∨ 4096 < size.toNat → exec (.setPool p tag size) s = .next (s.answered p tag .malformed))
    ∧ (1 ≤ size.toNat → size.toNat ≤ 4096 → s.pool.state ≠ .unset → exec (.setPool p tag size) s = .next (s.answered p tag .notPermitted))
    ∧ (1 ≤ size.toNat → size.toNat ≤ 4096 → s.pool.state = .unset →
        exec (.setPool p tag size) s =
          .next (({ s with pool := { s.pool with state := .initializing, top := size.toNat * 1048576 } } : State).modPort p fun r =>
            { r with
              requestsAccepted := r.requestsAccepted + 1
              engine := { Engine.idle with state := .poolWait, current := some ⟨tag, .setPool size⟩ } }))

/-- SET_PORT: operands out of range are MALFORMED; taking the last ADMINISTRATIVE class away is NOT_PERMITTED; otherwise the named port's class, C, H and T are replaced at once, the new C and H being tested at this event (R136, R163, R164). Where a port names itself and records wait in its queue, that the batch which the new C or H make due forms only after the SET_PORT's own DONE record has been added, and reloads its timer with the new T, is the model's reading (log 10, DEDUCED): these rules leave that order open. -/
def Obligations.SetPortReplacesTheParameters : Prop :=
  ∀ (s : State) (p : Port) (tag : Tag) (port cls c h : Byte) (t : BitVec 16), s.Ready p → (s.port p).cls = .administrative →
    (7 < port.toNat ∨ 1 < cls.toNat ∨ 16 < c.toNat ∨ 16 < h.toNat ∨ 1023 < t.toNat →
      exec (.setPort p tag port cls c h t) s = .next (s.answered p tag .malformed))
    ∧ ∀ n : Port, port.toNat = n.val → c.toNat ≤ 16 → h.toNat ≤ 16 → t.toNat ≤ 1023 →
        (cls = 0 → (∀ q : Port, q ≠ n → (s.port q).cls = .user) →
          exec (.setPort p tag port cls c h t) s = .next (s.answered p tag .notPermitted))
        ∧ (∀ k : PortClass, classOfCode cls = some k → k = .administrative ∨ (∃ q : Port, q ≠ n ∧ (s.port q).cls = .administrative) →
            exec (.setPort p tag port cls c h t) s =
              .next (((s.modPort n fun r =>
                { r with cls := k, countThreshold := c.toNat, heldThreshold := h.toNat, tickInterval := t.toNat }).answered p tag .ok).modPort
                  n PortRec.report))
        ∧ classOfCode 0 = some .user ∧ classOfCode 1 = some .administrative

/-- FENCE: an empty set is MALFORMED, a set with the requesting port NOT_PERMITTED, a fence that exists makes it BUSY; otherwise the ports of the set are fenced, the record is PENDING with owner, tag and set, the request completes OK, and the idle test follows. The test: when every port of the set is DOWN, or ACTIVE with its engine IDLE and nothing left to send, FENCE_DONE with outcome IDLE goes to the owner and the record is HELD; otherwise nothing changes, and a fence that is not PENDING is not tested (R154, R166, R167). That the test and its FENCE_DONE come before the batch of the FENCE's own event forms is the model's reading (log 10). -/
def Obligations.FenceAndIdleTest : Prop :=
  (∀ (s : State) (p : Port) (tag : Tag) (set : BitVec 8), s.Ready p → (s.port p).cls = .administrative →
      (set = 0 → exec (.fence p tag set) s = .next (s.answered p tag .malformed))
      ∧ (set.getLsbD p.val = true → exec (.fence p tag set) s = .next (s.answered p tag .notPermitted))
      ∧ (set ≠ 0 → set.getLsbD p.val = false → s.fence ≠ .none → exec (.fence p tag set) s = .next (s.answered p tag .busy))
      ∧ (set ≠ 0 → set.getLsbD p.val = false → s.fence = .none →
          exec (.fence p tag set) s =
            .next ((({ s with fence := .pending p tag set } : State).mapPorts fun q r =>
              { r with fenced := r.fenced || set.getLsbD q.val }).replied p tag .ok).fenceTest.reportAll))
  ∧ ∀ s : State,
      (∀ (owner : Port) (tag : Tag) (set : BitVec 8), s.fence = .pending owner tag set →
        ((∀ q : Port, set.getLsbD q.val = true →
            (s.port q).state = .down
              ∨ ((s.port q).state = .active ∧ (s.port q).engine.state = .idle ∧ (s.port q).completionQueue = []
                ∧ (s.port q).dataSlot = none ∧ (s.port q).transmitter = none)) →
          s.fenceTest = ({ s with fence := .held owner tag set } : State).addRecord owner (.fenceDone tag .idle))
        ∧ (∀ q : Port, set.getLsbD q.val = true → (s.port q).state ≠ .down →
            (s.port q).state = .resetting ∨ (s.port q).engine.state ≠ .idle ∨ (s.port q).completionQueue ≠ []
              ∨ (s.port q).dataSlot ≠ none ∨ (s.port q).transmitter ≠ none →
            s.fenceTest = s))
      ∧ ((∀ owner tag set, s.fence ≠ .pending owner tag set) → s.fenceTest = s)

/-- UNFENCE: with no fence nothing, with one PENDING a FENCE_DONE with outcome CANCELLED to its owner first; every fenced flag is cleared and the record is NONE; it completes OK, and an unfenced port's engine takes its oldest request at the same event (R168). That every transmitter, the requesting port's and the owner's among them, chooses before that taking is the model's order (log 5). What a taking is: an engine that is IDLE takes the request at the front of its port's queue, the others staying in order, where the port is ACTIVE and not fenced, no device reset is in progress or announced for the port, and fewer than 16 records are in its completion queue (R88, R108, R162). -/
def Obligations.UnfenceEndsTheFence : Prop :=
  (∀ (s : State) (p : Port) (tag : Tag), s.Ready p → (s.port p).cls = .administrative →
    (s.fence = .none → exec (.unfence p tag) s = .next (s.answered p tag .ok))
    ∧ (∀ owner t set, s.fence = .held owner t set →
        exec (.unfence p tag) s =
          .next (((({ s with fence := .none } : State).mapPorts fun _ r => { r with fenced := false }).replied p tag .ok).reportAll))
    ∧ (∀ owner t set, s.fence = .pending owner t set →
        exec (.unfence p tag) s =
          .next ((((({ s with fence := .none } : State).addRecord owner (.fenceDone t .cancelled)).mapPorts fun _ r =>
            { r with fenced := false }).replied p tag .ok).reportAll)))
  ∧ (∀ (s : State) (p q : Port) (tag : Tag) (r : Request) (rest : List Request), (s.withoutQueue q).Ready p → (s.port p).cls = .administrative →
      q ≠ p → s.fence ≠ .none → (s.port q).fenced = true → (s.port q).state = .active → (s.port q).engine.state = .idle →
      s.deviceReset ≠ .announced q → (s.port q).completionQueue.length < 16 →
      (∀ (t : Tag) (set : BitVec 8), s.fence = .pending q t set → (s.port q).completionQueue.length < 15) →
      (s.port q).requestQueue = r :: rest →
      exec (.unfence p tag) s = .next (State.settle rest.length ((s.unfenced.replied p tag .ok).reportAll.takeRequest q)))
  ∧ ∀ (s : State) (p : Port),
      (s.canTake p = true ↔
        (s.port p).engine.state = .idle ∧ (s.port p).requestQueue ≠ [] ∧ (s.port p).state = .active ∧ (s.port p).fenced = false
          ∧ s.deviceReset ≠ .draining ∧ s.deviceReset ≠ .announced p ∧ (s.port p).completionQueue.length < 16)
      ∧ ∀ (r : Request) (rest : List Request), (s.port p).requestQueue = r :: rest →
          s.takeRequest p =
            (s.modPort p fun x =>
              { x with requestQueue := rest, engine := { Engine.idle with current := some (currentOf r) } }).examine p r

/-- PORT_RESET: a number above 7 is MALFORMED, the port itself NOT_PERMITTED, a DOWN port completes OK at once; an ACTIVE port is reset at this event, in every block, its locks, a fence it owns, its operation and the requests that wait at it, which get no reply and stay counted as accepted, included, and the reply comes when no operation of it is outstanding, which may be at once, and a device reset announced for another port waits on; a RESETTING port's reset is waited for (R82, R131, R162, R169, R170, R171, R172, R188); stated with no request waiting at a third port. Where a device reset is announced for the named port it begins at this event, the requests that wait at any port discarded, and the PORT_RESET gets no reply (R185; that no DONE record is added and that no free transmitter chooses before the beginning is log 29, DESIGN CHOICE; while the part drains the reset port's engine is IDLE (R171) and every other engine stands where it is (R86), but that a PORT_RESET waited on is discarded, this one among them (R185; that its engine then stands in MEMORY without a request is log 21, DEDUCED); at the end the model's own fields stand as logs 15, 16, 17 and 32 say). At the completion of a RESETTING port's last operation the port is ACTIVE or DOWN by its link, and every engine that waits for the reset replies OK and is IDLE, a write having changed memory all the same (R82, R172; log 28 for a discarded read that meets a data error). -/
def Obligations.PortResetClearsThePort : Prop :=
  (∀ (s : State) (p : Port) (tag : Tag) (port : Byte), s.Ready p → (s.port p).cls = .administrative →
    (7 < port.toNat → exec (.portReset p tag port) s = .next (s.answered p tag .malformed))
    ∧ (port.toNat = p.val → exec (.portReset p tag port) s = .next (s.answered p tag .notPermitted)))
  ∧ (∀ (s : State) (p n : Port) (tag : Tag) (port : Byte), s.Resting → s.Able p → (s.port p).cls = .administrative →
      port.toNat = n.val → n ≠ p →
        (s.OthersHaveNone n → (s.port n).state = .down → exec (.portReset p tag port) s = .next (s.answered p tag .ok))
        ∧ (s.OthersHaveNone n → (s.port n).state = .resetting →
            exec (.portReset p tag port) s =
              .next (s.modPort p fun r =>
                { r with
                  requestsAccepted := r.requestsAccepted + 1
                  engine := { Engine.idle with state := .memory, current := some ⟨tag, .portReset port⟩ } }))
        ∧ (s.OthersHaveNone n → s.LockLaw → (s.port n).state = .active → s.deviceReset ≠ .announced n →
            ∃ t, exec (.portReset p tag port) s = .next t ∧ s.PortCleared t n ∧ t.deviceReset = s.deviceReset ∧ s.SameTables t ∧ t.cache = s.cache
              ∧ t.latches = s.latches ∧ s.SameCounts t ∧ t.leaseExpiries = s.leaseExpiries
              ∧ (if s.hasOp (.engine n) then
                  (t.port n).state = .resetting
                    ∧ (t.port p).engine = { Engine.idle with state := .memory, current := some ⟨tag, .portReset port⟩ }
                else
                  (t.port n).state = (if (s.port n).link = .up then .active else .down)
                    ∧ (t.port p).engine = Engine.idle
                    ∧ Record.done tag .ok none none none none .plain ∈ (t.port p).outgoing))
        ∧ ((s.port n).state = .active → s.deviceReset = .announced n → s.Outstanding →
            ∃ t, exec (.portReset p tag port) s = .next t ∧ t.Drains ∧ (t.port n).engine = Engine.idle
              ∧ (t.port n).requestsAccepted = (s.port n).requestsAccepted ∧ (t.port n).transmitter = (s.port n).transmitter
              ∧ t.port p =
                  { (s.port p).swept with
                    requestsAccepted := (s.port p).requestsAccepted + 1, engine := { Engine.idle with state := .memory }, fenced := (t.port p).fenced }
              ∧ (∀ q : Port, q ≠ p → q ≠ n → t.port q = { (s.port q).swept with fenced := (t.port q).fenced }) ∧ s.FenceLeft t n ∧ s.SameTables t ∧ t.cache = s.cache
              ∧ t.latches = s.latches ∧ s.SameLookups t ∧ s.WalkerDrains t)
        ∧ ((s.port n).state = .active → s.deviceReset = .announced n → ¬s.Outstanding →
            ∃ t, exec (.portReset p tag port) s = .next t ∧ s.Restarts t ∧ s.SameMemory t))
  ∧ ∀ (s : State) (n : Port) (t : Target) (op : MemOp), s.Quiet → s.MemoryCanonical → (s.port n).state = .resetting → s.CanComplete t op →
      op.requester = .engine n → op.discard = true → (s.leaveArbiter t op).hasOp (.engine n) = false →
      ∃ u, exec (.memoryOperationComplete n) s = .next u ∧ (u.port n).state = (if (s.port n).link = .up then .active else .down)
        ∧ (∀ (q : Port) (tag : Tag) (port : Byte), (s.port q).engine.state = .memory →
            (s.port q).engine.current = some ⟨tag, .portReset port⟩ → port.toNat = n.val →
            Record.done tag .ok none none none none .plain ∈ (u.port q).outgoing ∧ (u.port q).engine = Engine.idle)
        ∧ s.Performed u t op ∧ s.SameLocks u ∧ u.cache = s.cache ∧ u.walker = s.walker ∧ u.windows = s.windows ∧ u.anchors = s.anchors

/-- SET_TIMEBASE replaces D and restarts the prescaler, and nothing else; a value above 1023 is MALFORMED; from a USER port it is NOT_PERMITTED (R175). -/
def Obligations.SetTimebaseRestartsThePrescaler : Prop :=
  ∀ (s : State) (p : Port) (tag : Tag) (divide : BitVec 16), s.Ready p →
    ((s.port p).cls = .user → exec (.setTimebase p tag divide) s = .next (s.answered p tag .notPermitted))
    ∧ ((s.port p).cls = .administrative → 1023 < divide.toNat →
        exec (.setTimebase p tag divide) s = .next (s.answered p tag .malformed))
    ∧ ((s.port p).cls = .administrative → divide.toNat ≤ 1023 →
        exec (.setTimebase p tag divide) s =
          .next (({ s with divide := BitVec.ofNat 10 divide.toNat, prescaler := 0 } : State).answered p tag .ok))

/-- COUNTERS answers the counter block as it stands at the taking, its own acceptance counted; clear flag 1 zeroes all 37 at the same event; a flag above 1 is MALFORMED (R177, R178). -/
def Obligations.CountersReadAndClear : Prop :=
  ∀ (s : State) (p : Port) (tag : Tag) (clear : Byte), s.Ready p → (s.port p).cls = .administrative →
    (1 < clear.toNat →
      exec (.counters p tag clear) s = .next (s.answeredData p ⟨0x41, tag, [clear]⟩ { tag, status := .malformed }))
    ∧ (∀ taken : State, taken = (s.modPort p fun r => r.engaged ⟨0x41, tag, [clear]⟩) →
        (clear = 0 →
          exec (.counters p tag clear) s =
            .next (taken.modPort p fun r => (r.replyData { tag, status := .ok, body := .counters (counterBlock taken) }).report))
        ∧ (clear = 1 →
            ∃ t, exec (.counters p tag clear) s = .next t ∧ counterBlock t = List.replicate 37 0
              ∧ t = ((({ taken with cacheHits := 0, cacheMisses := 0, walksStarted := 0, staleWalks := 0, leaseExpiries := 0 } : State).mapPorts
                  fun _ r => { r with requestsAccepted := 0, faultedReplies := 0, framesDiscarded := 0, overruns := 0 }).modPort p fun r =>
                    (r.replyData { tag, status := .ok, body := .counters (counterBlock taken) }).report)))

/-- ALERT_CLEAR reads the latch's count as its value and clears the latch, and nothing else; a code that names no cause is MALFORMED; from a USER port it is NOT_PERMITTED (R182, R195). -/
def Obligations.AlertClearReadsAndClears : Prop :=
  ∀ (s : State) (p : Port) (tag : Tag) (cause : Byte), s.Ready p →
    ((s.port p).cls = .user → exec (.alertClear p tag cause) s = .next (s.answered p tag .notPermitted))
    ∧ ((s.port p).cls = .administrative → cause.toNat = 0 ∨ 6 < cause.toNat →
        exec (.alertClear p tag cause) s = .next (s.answered p tag .malformed))
    ∧ (∀ c : AlertCause, (s.port p).cls = .administrative → cause = c.code →
        exec (.alertClear p tag cause) s =
          .next ((s.setLatch c { isSet := false, count := 0, firstPort := none, firstAddress := none }).answered
            p tag .ok (some (BitVec.ofNat 32 (s.latch c).count.toNat))))

/-- DEVICE_RESET: with none announced its urgent DONE record is added, the state is ANNOUNCED for the port, and its engine takes no further request; while another port's is announced it completes BUSY, by a record that is urgent too (R105, R184; log 27 for its urgency). -/
def Obligations.DeviceResetIsAnnounced : Prop :=
  ∀ (s : State) (p : Port) (tag : Tag), s.Ready p → (s.port p).cls = .administrative →
    (s.deviceReset = .none →
      exec (.deviceReset p tag) s =
        .next (({ s with deviceReset := .announced p } : State).modPort p fun r => (r.replied tag .ok none none .deviceReset).report))
    ∧ (∀ q : Port, s.deviceReset = .announced q →
        exec (.deviceReset p tag) s = .next (s.modPort p fun r => (r.replied tag .busy none none .deviceBusy).report))
    ∧ (∀ mark : DoneMark, (Record.done tag .ok none none none none mark).urgent = true ↔ mark ≠ .plain)
    ∧ ∀ t : State, t.deviceReset = .announced p → t.canTake p = false

/-- A device reset begins when the batch with the DEVICE_RESET's DONE record has been sent. With no operation taken and no other transmitter busy it ends at that event: every block has its power-on value but the near store, the pool and the links, and each port is ACTIVE or DOWN by its link. Otherwise the part drains: every queue and data slot is empty, the requests that waited, at whatever port, being discarded with no reply and still counted as accepted, what no arbiter has taken is withdrawn, what is taken goes on, every engine stands where it is, but that a PORT_RESET waited on is discarded, and with no walker operation taken the walker has its power-on values (R63, R82, R86, R153, R162, R185, R187, R188; log 16 for the bytes delivered; log 21, DEDUCED, for the engine that waited on a PORT_RESET, in MEMORY without a request). While it drains, a transmission that completes frees its transmitter alone; an operation that completes acts on the memory, its result discarded, and changes nothing else, but that with the last walker operation gone the walker has its power-on values; the last of all, or the link-down report that abandons the last transmission, ends the device reset (R63, R82, R86, R186, R187). The model's own fields stand as logs 15, 16, 17 and 32 say. -/
def Obligations.DeviceResetBegins : Prop :=
  (∀ (s : State) (p : Port) (f : OutFrame), s.Resting → s.deviceReset = .announced p → (s.port p).transmitter = some f → f.announcesReset = true →
    (s.nearArbiter.taken = [] → s.poolArbiter.taken = [] → (∀ q : Port, q ≠ p → (s.port q).transmitter = none) →
      ∃ u, exec (.transmissionComplete p) s = .next u ∧ (s.modPort p fun r => { r with delivered := f.encode }).Restarts u ∧ s.SameMemory u)
    ∧ (s.nearArbiter.taken ≠ [] ∨ s.poolArbiter.taken ≠ [] ∨ (∃ q : Port, q ≠ p ∧ (s.port q).transmitter ≠ none) →
        ∃ t, exec (.transmissionComplete p) s = .next t ∧ t.Drains
          ∧ t.nearArbiter.taken = s.nearArbiter.taken ∧ t.poolArbiter.taken = s.poolArbiter.taken
          ∧ t.port p = { (s.port p).swept with transmitter := none, delivered := f.encode }
          ∧ (∀ q : Port, q ≠ p → t.port q = (s.port q).swept)
          ∧ s.SameTables t ∧ s.SameLocks t ∧ t.cache = s.cache ∧ t.latches = s.latches ∧ s.SameLookups t
          ∧ s.WalkerDrains t ∧ t.fence = s.fence))
  ∧ ∀ s : State, s.power = .operating → s.draining = true → s.AtRest →
      (∀ (p : Port) (f : OutFrame), (s.port p).transmitter = some f →
        ((s.modPort p fun r => { r with transmitter := none }).Outstanding →
          exec (.transmissionComplete p) s = .next (s.modPort p fun r => { r with transmitter := none, delivered := f.encode }))
        ∧ (¬(s.modPort p fun r => { r with transmitter := none }).Outstanding →
            ∃ u, exec (.transmissionComplete p) s = .next u ∧ (s.modPort p fun r => { r with delivered := f.encode }).Restarts u
              ∧ s.SameMemory u))
      ∧ (∀ (t : Target) (op : MemOp) (c : Instr), s.MemoryCanonical → s.CanComplete t op → s.CompletedBy op c →
          ∃ u, exec c s = .next u ∧ s.Performed u t op ∧ u.pool.state = s.pool.state ∧ u.pool.top = s.pool.top
            ∧ ((s.leaveArbiter t op).Outstanding →
                u = { s with
                      near := u.near, pool := u.pool, nearArbiter := u.nearArbiter, poolArbiter := u.poolArbiter
                      walker := u.walker, walksStarted := u.walksStarted, staleWalks := u.staleWalks }
                  ∧ s.WalkerDrains u ∧ (u.WalkerOut → u.walker = s.walker)
                  ∧ (u.arbiter t).taken = (s.arbiter t).taken.erase op ∧ (∀ x : Target, x ≠ t → (u.arbiter x).taken = (s.arbiter x).taken)
                  ∧ (u.nearArbiter.taken = [] → u.poolArbiter.taken = [] →
                      u.nearArbiter = { waiting := [], taken := [], pointer := 7 } ∧ u.poolArbiter = { waiting := [], taken := [], pointer := 7 }))
            ∧ (¬(s.leaveArbiter t op).Outstanding → s.Restarts u))
      ∧ ∀ p : Port, (s.port p).link = .up → ¬(s.modPort p fun r => { r with transmitter := none }).Outstanding →
          ∃ u, exec (.linkDown p) s = .next u ∧ (s.modPort p fun r => { r with link := .down }).Restarts u ∧ s.SameMemory u

/-! ### Access requests -/

/-- An access request whose address or length is out of range completes MALFORMED, unmarked, with nothing translated. One in range has one portion when offset and length stay within 16 KiB, else two, the second at offset 0 of the next 16 KiB with the rest of the length. The key and the offset of a logical address are its fields (R1, R2, R91, R92, R102 to R104, R107). -/
def Obligations.AccessRangeAndPortions : Prop :=
  (∀ (s : State) (p : Port) (c : Instr) (r : Request) (ops : Operands), s.Ready p → c.request = some (p, r) → r.payload.length ≤ 272 →
      readOperands r = some ops → ops.isLogical = true ∨ (ops.physical = true ∧ (s.port p).cls = .administrative) → ops.portions = none →
      exec c s =
        .next (if ops.writeData.isSome then s.answered p r.tag .malformed else s.answeredData p r { tag := r.tag, status := .malformed }))
  ∧ (∀ a : LogicalAddress,
      a.toNat = (keyOf a).space.toNat * 2 ^ 31 + (keyOf a).segment.toNat * 2 ^ 22 + (keyOf a).page.toNat * 2 ^ 14 + (offsetOf a).toNat)
  ∧ ∀ (a : LogicalAddress) (len : Nat), 1 ≤ len → len ≤ 256 → a.toNat + len ≤ 2 ^ 34 →
      (a.toNat % 16384 + len ≤ 16384 → portionsOf a len = [⟨a, len⟩])
      ∧ (16384 < a.toNat % 16384 + len →
          ∃ b : LogicalAddress, b.toNat = a.toNat + (16384 - a.toNat % 16384) ∧ b.toNat % 16384 = 0
            ∧ portionsOf a len = [⟨a, 16384 - a.toNat % 16384⟩, ⟨b, len - (16384 - a.toNat % 16384)⟩]
            ∧ 1 ≤ 16384 - a.toNat % 16384 ∧ 16384 - a.toNat % 16384 ≤ 255 ∧ 1 ≤ len - (16384 - a.toNat % 16384))

/-- READ, WRITE and PROBE at their taking: check 1 (SPACE_DENIED), check 2 (SEGMENT_LIMIT), then the lookup; on a miss the engine stays in TRANSLATE, one more cache miss, and nothing else changes (R6, R15, R18, R24, R26, R27, R94). -/
def Obligations.AnchorChecksAndMiss : Prop :=
  ∀ (s : State) (p : Port) (c : Instr) (r : Request) (ops : Operands) (q : Portion) (rest : List Portion), s.Ready p →
    c.request = some (p, r) → r.payload.length ≤ 272 → readOperands r = some ops → ops.isLogical = true → ops.portions = some (q :: rest) →
    ((s.anchor (keyOf q.addr).space).length = 0 ∨ (s.anchor (keyOf q.addr).space).mask.getLsbD p.val = false →
      exec c s = .next ((s.begun p r.tag ops (q :: rest)).accessReply p r.tag ops .spaceDenied (some (q.addr.setWidth 40)) .empty))
    ∧ ((s.anchor (keyOf q.addr).space).length ≠ 0 → (s.anchor (keyOf q.addr).space).mask.getLsbD p.val = true →
        ((s.anchor (keyOf q.addr).space).length ≤ (keyOf q.addr).segment.toNat →
          exec c s = .next ((s.begun p r.tag ops (q :: rest)).accessReply p r.tag ops .segmentLimit (some (q.addr.setWidth 40)) .empty))
        ∧ ((keyOf q.addr).segment.toNat < (s.anchor (keyOf q.addr).space).length →
            s.Lacks (keyOf q.addr)
              ∨ (ops.translatesWrite = true ∧ ∃ (way : Bool) (tr : Translation), s.Holds (keyOf q.addr) way tr ∧ tr.modifiedKnown = false
                  ∧ (way = true → ∀ e ∈ s.cache[setIndex (keyOf q.addr)].way0, e.key ≠ keyOf q.addr)) →
            exec c s = .next { s.begun p r.tag ops (q :: rest) with cacheMisses := s.cacheMisses + 1 }))

/-- READ, WRITE and PROBE that hit: check 4 by the class's code (RIGHTS); a PROBE answers its block; a write whose guard is not owned faults LOCK_HELD; then decode: REFUSED, a wait for READY, or the operation placed with its arbiter (R13 to R16, R25, R96 to R98, R101). -/
def Obligations.HitsAreChecked : Prop :=
  ∀ (s : State) (p : Port) (c : Instr) (r : Request) (ops : Operands) (q : Portion) (rest : List Portion) (way : Bool) (tr : Translation),
    s.Ready p → c.request = some (p, r) → r.payload.length ≤ 272 → readOperands r = some ops → ops.isLogical = true →
    ops.portions = some (q :: rest) →
    (keyOf q.addr).segment.toNat < (s.anchor (keyOf q.addr).space).length → (s.anchor (keyOf q.addr).space).mask.getLsbD p.val = true →
    s.Holds (keyOf q.addr) way tr → (way = true → ∀ e ∈ s.cache[setIndex (keyOf q.addr)].way0, e.key ≠ keyOf q.addr) →
    (ops.translatesWrite = true → tr.modifiedKnown = true) →
    ∀ hit : State, hit = (s.begun p r.tag ops (q :: rest)).afterHit (keyOf q.addr) way →
      ((tr.rightsFor (s.port p).cls).permits ops.translatesWrite = false →
        exec c s = .next (hit.accessReply p r.tag ops .rights (some (q.addr.setWidth 40)) .empty))
      ∧ ((tr.rightsFor (s.port p).cls).permits ops.translatesWrite = true →
          (∀ a, ops = .probe a →
            exec c s =
              .next (hit.accessReply p r.tag ops .ok none (.probe tr (s.decode (tr.frame ++ offsetOf q.addr) (s.port p).cls))))
          ∧ ((∀ a, ops ≠ .probe a) →
              (∀ n : LockId, ops.translatesWrite = true → tr.guard = some n → (s.lock n).owner ≠ some p →
                exec c s = .next (hit.accessReply p r.tag ops .lockHeld (some (q.addr.setWidth 40)) .empty))
              ∧ ((∀ n : LockId, ops.translatesWrite = true → tr.guard = some n → (s.lock n).owner = some p) →
                  (s.decode (tr.frame ++ offsetOf q.addr) (s.port p).cls = .refused →
                    exec c s = .next (hit.accessReply p r.tag ops .refused (some (q.addr.setWidth 40)) .empty))
                  ∧ (∀ a, s.decode (tr.frame ++ offsetOf q.addr) (s.port p).cls = .near a →
                      exec c s = .next (hit.placed p .near a.toNat (firstOperation ops q) (some tr)))
                  ∧ (∀ a, s.decode (tr.frame ++ offsetOf q.addr) (s.port p).cls = .external a → s.pool.state ≠ .initializing →
                      exec c s = .next (hit.placed p .external a.toNat (firstOperation ops q) (some tr)))
                  ∧ (∀ a, s.decode (tr.frame ++ offsetOf q.addr) (s.port p).cls = .external a → s.pool.state = .initializing →
                      exec c s = .next (hit.modEngine p fun e => { e with state := .poolWait, translation := some tr })))))

/-- PHYS_READ and PHYS_WRITE go straight to the decode of their physical address, made as for the ADMINISTRATIVE class: REFUSED with the physical address, a wait for READY, or the operation placed (R14, R92, R97, R104). An arbiter whose target can accept one takes of the operations that wait the lowest walk slot's, its pointer left as it was, else that of the first port in the order after the pointer, which then names that port; else it takes none. At an event the near arbiter takes one at most and the pool arbiter goes on until it can take no more (R79, R80). -/
def Obligations.PhysicalRequestsAreIssued : Prop :=
  (∀ (s : State) (p : Port) (c : Instr) (r : Request) (ops : Operands) (q : Portion) (rest : List Portion), s.Ready p →
    (s.port p).cls = .administrative → c.request = some (p, r) → r.payload.length ≤ 272 → readOperands r = some ops → ops.physical = true →
    ops.portions = some (q :: rest) →
    (s.decode (q.addr.setWidth 32) .administrative = .refused →
      exec c s = .next ((s.begun p r.tag ops (q :: rest)).accessReply p r.tag ops .refused (some (q.addr.setWidth 40)) .empty))
    ∧ (∀ a, s.decode (q.addr.setWidth 32) .administrative = .near a →
        exec c s = .next ((s.begun p r.tag ops (q :: rest)).placed p .near a.toNat (firstOperation ops q) none))
    ∧ (∀ a, s.decode (q.addr.setWidth 32) .administrative = .external a → s.pool.state ≠ .initializing →
        exec c s = .next ((s.begun p r.tag ops (q :: rest)).placed p .external a.toNat (firstOperation ops q) none))
    ∧ (∀ a, s.decode (q.addr.setWidth 32) .administrative = .external a → s.pool.state = .initializing →
        exec c s = .next ((s.begun p r.tag ops (q :: rest)).modEngine p fun e => { e with state := .poolWait })))
  ∧ ∀ (s : State) (t : Target),
      (∀ (i : SlotId) (op : MemOp), s.Accepts t → op.requester = .slot i →
        (s.arbiter t).waiting.find? (fun o => o.requester == op.requester) = some op → (∀ j : SlotId, j < i → s.NoneWaits t (.slot j)) →
        s.arbiterTake t = s.setArbiter t ((s.arbiter t).took op (s.arbiter t).pointer))
      ∧ (∀ (q : Port) (op : MemOp), s.Accepts t → op.requester = .engine q →
          (s.arbiter t).waiting.find? (fun o => o.requester == op.requester) = some op → (∀ j : SlotId, s.NoneWaits t (.slot j)) →
          (∀ r : Port, comesFirst (s.arbiter t).pointer r q → s.NoneWaits t (.engine r)) →
          s.arbiterTake t = s.setArbiter t ((s.arbiter t).took op q))
      ∧ (¬s.Accepts t ∨ (s.arbiter t).waiting = [] → s.arbiterTake t = s)
      ∧ s.arbitersTake = Nat.iterate (fun u => u.arbiterTake .external) 4 (s.arbiterTake .near)
      ∧ ¬(s.arbitersTake.Accepts t ∧ (s.arbitersTake.arbiter t).waiting ≠ [])

/-- The completion of a read: the bytes as they stand at the target, after those of a first portion, go out in the reply of a last portion; memory is unchanged (R73, R100, R102). With the data slot empty the reply is produced and the engine takes the oldest request that waits at the same event (R88, R106, R108, R162; that the port's own transmitter chooses before that taking is the model's reading, log 5; stated with no operation waiting at an arbiter and no PENDING fence). An operation completes before one taken earlier at its target where no earlier one touches a byte of its; one that an earlier-taken operation on a common byte holds back does not complete (R81): a command that names its completion is an event that the state rules out, and in the model it changes nothing (log 2, DESIGN CHOICE). -/
def Obligations.ReadsReturnTheBytes : Prop :=
  (∀ (s : State) (p : Port) (t : Target) (op : MemOp) (n : Nat) (c : Current), s.Quiet → s.CanComplete t op →
    op.requester = .engine p → op.kind = .read n → op.discard = false → s.readFailure t op.addr n = none →
    (s.port p).state = .active → (s.port p).engine.state = .memory → (s.port p).engine.current = some c → c.ops.writeData = none →
    (s.port p).engine.second = true ∨ (s.port p).engine.portions.length ≠ 2 →
    ∃ u, exec (.memoryOperationComplete p) s = .next u
      ∧ u.port p =
          (({ s.port p with
              engine := { (s.port p).engine with readData := (s.port p).engine.readData ++ (s.store t).bytes op.addr n } } : PortRec).replyData
            { tag := c.tag, status := .ok, body := .bytes ((s.port p).engine.readData ++ (s.store t).bytes op.addr n) } c.ops.readFlush).report
      ∧ s.SameOthers u p ∧ s.SameTables u ∧ s.SameLocks u ∧ u.cache = s.cache ∧ u.latches = s.latches ∧ s.SameCounts u ∧ u.walker = s.walker)
  ∧ (∀ (s : State) (p : Port) (t : Target) (op : MemOp) (n : Nat) (c : Current) (r : Request) (rest : List Request), (s.withoutQueue p).Quiet →
      s.CanComplete t op → op.requester = .engine p → op.kind = .read n → op.discard = false → s.readFailure t op.addr n = none →
      s.nearArbiter.waiting = [] → s.poolArbiter.waiting = [] → (∀ owner tag set, s.fence ≠ .pending owner tag set) →
      (s.port p).state = .active → (s.port p).engine.state = .memory → (s.port p).engine.current = some c → c.ops.writeData = none →
      (s.port p).engine.second = true ∨ (s.port p).engine.portions.length ≠ 2 → (s.port p).dataSlot = none → (s.port p).fenced = false →
      s.deviceReset ≠ .announced p → (s.port p).completionQueue.length < 16 → (s.port p).requestQueue = r :: rest →
      (∀ o ∈ (s.leaveArbiter t op).nearArbiter.taken ++ (s.leaveArbiter t op).poolArbiter.taken, o.requester ≠ .engine p) →
      exec (.memoryOperationComplete p) s =
        .next (State.settle rest.length
          (((s.leaveArbiter t op).modPort p fun x =>
            (x.replyData
              { tag := c.tag, status := .ok, body := .bytes ((s.port p).engine.readData ++ (s.store t).bytes op.addr n) } c.ops.readFlush).report).takeRequest
            p)))
  ∧ ∀ (s : State) (t : Target) (op : MemOp) (c : Instr), s.power = .operating → s.AtRest → s.HeldBack t op → s.CompletedBy op c → exec c s = .next s

/-- The completion of a write: its bytes stand in the target and no other byte changes, a failed byte among them reads again, and the reply of a last portion is a DONE record with status OK (R73, R82, R83, R100, R103). -/
def Obligations.WritesReachMemory : Prop :=
  ∀ (s : State) (p : Port) (t : Target) (op : MemOp) (data : List Byte) (c : Current), s.Quiet → s.MemoryCanonical → s.CanComplete t op →
    op.requester = .engine p → op.kind = .write data → op.discard = false →
    (s.port p).state = .active → (s.port p).engine.state = .memory → (s.port p).engine.current = some c → c.ops.writeData ≠ none →
    (s.port p).engine.second = true ∨ (s.port p).engine.portions.length ≠ 2 →
    ∃ u, exec (.memoryOperationComplete p) s = .next u
      ∧ s.Wrote u t op.addr data
      ∧ (t = .external → ∀ x : Nat, x ∈ u.pool.failed ↔ x ∈ s.pool.failed ∧ ¬(op.addr ≤ x ∧ x < op.addr + data.length))
      ∧ (t = .near → u.pool = s.pool) ∧ u.pool.state = s.pool.state ∧ u.pool.top = s.pool.top
      ∧ u.port p = ((s.port p).replyDone c.tag .ok none none none none c.ops.doneMark).report
      ∧ s.SameOthers u p ∧ s.SameLocks u ∧ u.cache = s.cache ∧ u.latches = s.latches ∧ u.windows = s.windows ∧ u.anchors = s.anchors
      ∧ u.divide = s.divide ∧ u.prescaler = s.prescaler ∧ s.SameCounts u ∧ u.walker = s.walker

/-- The first of two portions completes: it has acted on the memory, its bytes are held, the second is current and takes its own checks, as they stand now. A logical one: check 1 (SPACE_DENIED), check 2 (SEGMENT_LIMIT), then the lookup, with one more miss and a wait in TRANSLATE, or one more hit and checks 4 to 6; a physical one goes straight to its decode as for the ADMINISTRATIVE class. Where a check faults the request ends PARTIAL, with the fault's status as reason, the first portion's length as done count, the second's address, and for a READ or PHYS_READ the first portion's bytes; else the second portion's operation is placed, with the rest of a write's data, or waits for READY (R13 to R18, R25, R27, R92 to R98, R100, R102 to R105). -/
def Obligations.SecondPortionFollows : Prop :=
  ∀ (s : State) (p : Port) (t : Target) (op : MemOp) (tag : Tag) (ops : Operands) (first second : Portion) (tr : Option Translation),
    s.Quiet → s.MemoryCanonical → (s.port p).state = .active → s.CanComplete t op → op.requester = .engine p → op.discard = false →
    op.kind = firstOperation ops first → (ops.writeData = none → s.readFailure t op.addr first.len = none) →
    (s.port p).engine =
      { Engine.idle with state := .memory, current := some ⟨tag, ops⟩, portions := [first, second], translation := tr } →
    ops.isLogical = true ∨ ops.physical = true →
    ∀ mid : State,
      mid = (s.modEngine p fun e =>
        { e with
          second := true, translation := none
          readData := if ops.writeData.isSome then [] else (s.store t).bytes op.addr first.len }) →
    ∀ (k : Key) (c : Current), k = keyOf second.addr → c = ⟨tag, ops⟩ →
    ∃ u, exec (.memoryOperationComplete p) s = .next u ∧ s.Performed u t op
      ∧ s.SameLocks u ∧ u.latches = s.latches ∧ u.windows = s.windows ∧ u.anchors = s.anchors ∧ u.divide = s.divide
      ∧ u.prescaler = s.prescaler ∧ u.walker = s.walker ∧ u.walksStarted = s.walksStarted ∧ u.staleWalks = s.staleWalks ∧ s.SameOthers u p
      ∧ (ops.physical = true →
          u.cache = s.cache ∧ s.SameCounts u ∧ mid.Issues u p c (second.addr.setWidth 32) .administrative none)
      ∧ (ops.isLogical = true → (s.anchor k.space).length = 0 ∨ (s.anchor k.space).mask.getLsbD p.val = false →
          u.cache = s.cache ∧ s.SameCounts u ∧ mid.FaultsWith u p c .spaceDenied)
      ∧ (ops.isLogical = true → (s.anchor k.space).length ≠ 0 → (s.anchor k.space).mask.getLsbD p.val = true →
          ((s.anchor k.space).length ≤ k.segment.toNat → u.cache = s.cache ∧ s.SameCounts u ∧ mid.FaultsWith u p c .segmentLimit)
          ∧ (k.segment.toNat < (s.anchor k.space).length →
              (s.Lacks k
                ∨ (ops.translatesWrite = true ∧ ∃ (way : Bool) (old : Translation), s.Holds k way old ∧ old.modifiedKnown = false
                    ∧ (way = true → ∀ e ∈ s.cache[setIndex k].way0, e.key ≠ k)) →
                u.cache = s.cache ∧ u.cacheHits = s.cacheHits ∧ u.cacheMisses = s.cacheMisses + 1 ∧ mid.GoesTo u p .translate none)
              ∧ ∀ (way : Bool) (new : Translation), s.Holds k way new → (way = true → ∀ e ∈ s.cache[setIndex k].way0, e.key ≠ k) →
                  (ops.translatesWrite = true → new.modifiedKnown = true) →
                  u.cache = (s.afterHit k way).cache ∧ u.cacheHits = s.cacheHits + 1 ∧ u.cacheMisses = s.cacheMisses
                    ∧ mid.ProceedsWith u p c new))

/-- A read that meets a failed byte completes with a data error: no bytes, status DATA_ERROR at a first portion, at a second PARTIAL with reason DATA_ERROR, the first portion's length as done count and its bytes (with the second's address: log 11), and one DATA_ERROR occurrence with the port and the lowest failing address, also where the port has been reset and the result is discarded; memory is unchanged (R82 to R85, R93, R100). With the data slot empty the frame is placed or sent and the engine is IDLE; with a frame in the slot it is the engine's pending frame, in REPLY_WAIT, and the slot's frame and the count of faulted replies stand (R106, R108; log 31 for the read data). -/
def Obligations.DataErrorsAreReported : Prop :=
  ∀ (s : State) (p : Port) (op : MemOp) (n : Nat) (c : Current), s.Quiet → s.CanComplete .external op → op.requester = .engine p → op.kind = .read n →
    ∀ x : Nat, x ∈ s.pool.failed → op.addr ≤ x → x < op.addr + n → (∀ y ∈ s.pool.failed, op.addr ≤ y → x ≤ y) → s.MemoryCanonical →
    ∃ u, exec (.memoryOperationComplete p) s = .next u
      ∧ u.latch .dataError = (s.latch .dataError).after p (some (BitVec.ofNat 32 x)) ∧ (∀ c, c ≠ .dataError → u.latch c = s.latch c)
      ∧ s.SameTables u ∧ s.SameLocks u ∧ u.cache = s.cache ∧ s.SameCounts u ∧ u.walker = s.walker
      ∧ (op.discard = false → (s.port p).engine.state = .memory → (s.port p).engine.current = some c → c.ops.writeData = none →
          (s.port p).engine.second = false → (s.port p).dataSlot = none →
          (u.port p).engine = Engine.idle ∧ (u.port p).faultedReplies = (s.port p).faultedReplies + 1
            ∧ ((u.port p).dataSlot = some ⟨{ tag := c.tag, status := .dataError }, c.ops.readFlush⟩
                ∨ (u.port p).transmitter = some (.data { tag := c.tag, status := .dataError })))
      ∧ (∀ (first second : Portion) (f : DataFrame), op.discard = false → (s.port p).engine.state = .memory →
          (s.port p).engine.current = some c → c.ops.writeData = none → (s.port p).engine.second = true →
          (s.port p).engine.portions = [first, second] → (s.port p).dataSlot = none →
          f = { tag := c.tag, status := .partialDone, reason := some .dataError, doneCount := some (BitVec.ofNat 16 first.len)
                faultAddress := some (second.addr.setWidth 40), body := .bytes (s.port p).engine.readData } →
          (u.port p).engine = Engine.idle ∧ (u.port p).faultedReplies = (s.port p).faultedReplies
            ∧ ((u.port p).dataSlot = some ⟨f, c.ops.readFlush⟩ ∨ (u.port p).transmitter = some (.data f)))
      ∧ ∀ (f : DataFrame) (g : SlotFrame), op.discard = false → (s.port p).state = .active → (s.port p).engine.state = .memory →
          (s.port p).engine.current = some c → c.ops.writeData = none → (s.port p).dataSlot = some g →
          ((s.port p).engine.second = false ∧ f = { tag := c.tag, status := .dataError })
            ∨ (∃ first second : Portion, (s.port p).engine.second = true ∧ (s.port p).engine.portions = [first, second]
                ∧ f = { tag := c.tag, status := .partialDone, reason := some .dataError, doneCount := some (BitVec.ofNat 16 first.len)
                        faultAddress := some (second.addr.setWidth 40), body := .bytes (s.port p).engine.readData }) →
          (u.port p).engine =
              { (s.port p).engine with state := .replyWait, translation := none, readData := [], pendingFrame := some ⟨f, c.ops.readFlush⟩ }
            ∧ (u.port p).dataSlot = some g ∧ (u.port p).faultedReplies = (s.port p).faultedReplies

/-! ### The table walker -/

/-- The walker takes an engine's request: it joins the lowest busy slot that walks the key and is not stale, marking set-modified only in DESCRIPTOR; else the lowest open slot is given, its descriptor read placed, waiting for READY, or the walk ended with TABLE_ERROR, which the port's reply tells; else the port enters the wait list (R7, R43 to R46, R50, R56 to R58; log 15 for the fields without meaning of the slot that is FREE again). -/
def Obligations.WalkRequestsAreTaken : Prop :=
  ∀ (s : State) (p : Port) (k : Key) (m : Bool), s.Quiet → (s.port p).engine.state = .translate →
    k = keyOf (s.port p).engine.portion.addr → m = ((s.port p).engine.current.any fun c => c.ops.translatesWrite) →
    (∀ i : SlotId, s.Walks i k → (∀ j : SlotId, j < i → ¬s.Walks j k) →
      exec (.walkRequest p) s =
        .next ((s.modSlot i fun w =>
          { w with
            waiters := w.waiters ++ [⟨p, m⟩]
            setModified := w.setModified || (m && w.phase == .descriptor) }).modEngine p fun e => { e with state := .walkWait }))
    ∧ (∀ i : SlotId, (∀ j : SlotId, ¬s.Walks j k) → s.Open i → (∀ j : SlotId, j < i → ¬s.Open j) →
        ∀ (given : State) (addr : Nat), addr = (s.anchor k.space).base.toNat + 8 * k.segment.toNat →
          given = ((({ s with walksStarted := s.walksStarted + 1 } : State).modSlot i fun _ => s.givenSlot p k m).modEngine p
            fun e => { e with state := .walkWait }) →
          (addr < 65536 →
            exec (.walkRequest p) s = .next (given.placeOp .near { requester := .slot i, kind := .read 8, addr, discard := false }).arbitersTake)
          ∧ (65536 ≤ addr → addr < s.pool.top → addr < 2 ^ 32 → s.pool.state = .ready →
              exec (.walkRequest p) s =
                .next (given.placeOp .external { requester := .slot i, kind := .read 8, addr, discard := false }).arbitersTake)
          ∧ (65536 ≤ addr → addr < s.pool.top → s.pool.state ≠ .ready →
              exec (.walkRequest p) s = .next (given.modSlot i fun w => { w with waitingReady := true }))
          ∧ (65536 ≤ addr → s.pool.top ≤ addr →
              ∃ u, exec (.walkRequest p) s = .next u ∧ u.walksStarted = s.walksStarted + 1 ∧ u.slot i = WalkSlot.empty
                ∧ u.latch .tableError = (s.latch .tableError).after p (some (BitVec.ofNat 32 addr))
                ∧ (∀ c, (s.port p).engine.current = some c → (u.port p).Tells (s.port p).engine c .tableError)
                ∧ (∀ c, c ≠ .tableError → u.latch c = s.latch c) ∧ u.cache = s.cache ∧ s.SameTables u ∧ s.SameLocks u
                ∧ u.staleWalks = s.staleWalks ∧ u.cacheHits = s.cacheHits ∧ u.cacheMisses = s.cacheMisses))
    ∧ ((∀ j : SlotId, ¬s.Walks j k) → (∀ j : SlotId, ¬s.Open j) →
        exec (.walkRequest p) s =
          .next ((s.setWaitList (s.walker.waitList ++ [⟨p, k, m, none⟩])).modEngine p fun e => { e with state := .slotWait }))

/-- An offered port repeats its lookup, which counts as any lookup, and its outcome is kept for the walker; the walker's answer then ends the wait and the offer: on a hit the port goes on to check 4 with that translation, on a miss it joins a walk of the key, marking set-modified only in DESCRIPTOR, or is given the offered slot, its descriptor read placed, waiting for READY, or the walk ended with TABLE_ERROR. A FREE slot offered to none is offered to the first port in ring order after the pointer that waits and holds no offer, which the pointer then names; to none where there is no such port (R7, R44, R45, R47, R48, R50, R56 to R58, R96; log 15 for the fields without meaning of a slot that is FREE again). -/
def Obligations.OffersAreAnswered : Prop :=
  (∀ (s : State) (p : Port) (i : SlotId) (e : WaitEntry), s.Quiet → s.waitEntry p = some e → (s.slot i).offeredTo = some p →
    (∀ j : SlotId, (s.slot j).offeredTo = some p → j = i) →
    (e.answer = none →
      exec (.offeredLookup p) s =
        .next ((s.lookup e.key e.needsModified).2.setWaitList
          (s.walker.waitList.map fun x => if x.port = p then { x with answer := some (s.lookup e.key e.needsModified).1 } else x)))
    ∧ (∀ (tr : Translation) (c : Current), e.answer = some (.hit tr) → (s.port p).engine.current = some c →
        ∃ u, exec (.offerAnswer p) s = .next u ∧ u = (((s.leaveWaitList p).withdrawOffer p).translated p tr).housekeep.dispatchWork
          ∧ s.ProceedsWith u p c tr ∧ s.Reoffers u i ∧ (∀ x ∈ u.walker.waitList, x.port ≠ p) ∧ (∀ j : SlotId, (u.slot j).offeredTo ≠ some p)
          ∧ (u.port p).engine.state ≠ .slotWait ∧ s.SameTables u ∧ s.SameCounts u ∧ s.SameLocks u ∧ u.cache = s.cache ∧ u.latches = s.latches)
    ∧ (e.answer = some .miss ∨ e.answer = some .missNeedingModified →
        (∀ j : SlotId, s.Walks j e.key → (∀ j' : SlotId, j' < j → ¬s.Walks j' e.key) → (s.slot j).offeredTo = none →
          ∃ u, exec (.offerAnswer p) s = .next u ∧ (∀ x ∈ u.walker.waitList, x.port ≠ p) ∧ (∀ x : SlotId, (u.slot x).offeredTo ≠ some p)
            ∧ u.slot j =
                { s.slot j with
                  waiters := (s.slot j).waiters ++ [⟨p, e.needsModified⟩]
                  setModified := (s.slot j).setModified || (e.needsModified && (s.slot j).phase == .descriptor) }
            ∧ u.port p = { s.port p with engine := { (s.port p).engine with state := .walkWait } }
            ∧ s.Reoffers u i ∧ s.SameCounts u ∧ s.SameTables u ∧ s.SameLocks u ∧ u.cache = s.cache ∧ u.latches = s.latches)
        ∧ ((∀ j : SlotId, ¬s.Walks j e.key) →
            ∀ (given : State) (addr : Nat), addr = (s.anchor e.key.space).base.toNat + 8 * e.key.segment.toNat →
              given = ((({ s with
                  walksStarted := s.walksStarted + 1
                  walker := { s.walker with waitList := s.walker.waitList.filter fun x => x.port ≠ p } } : State).modSlot i fun _ =>
                    s.givenSlot p e.key e.needsModified).modEngine p fun e => { e with state := .walkWait }) →
              (addr < 65536 →
                exec (.offerAnswer p) s =
                  .next (given.placeOp .near { requester := .slot i, kind := .read 8, addr, discard := false }).arbitersTake)
              ∧ (65536 ≤ addr → addr < s.pool.top → addr < 2 ^ 32 → s.pool.state = .ready →
                  exec (.offerAnswer p) s =
                    .next (given.placeOp .external { requester := .slot i, kind := .read 8, addr, discard := false }).arbitersTake)
              ∧ (65536 ≤ addr → addr < s.pool.top → s.pool.state ≠ .ready →
                  exec (.offerAnswer p) s = .next (given.modSlot i fun w => { w with waitingReady := true }))
              ∧ (65536 ≤ addr → s.pool.top ≤ addr →
                  ∃ u, exec (.offerAnswer p) s = .next u ∧ u.walksStarted = s.walksStarted + 1
                    ∧ u.slot i = { WalkSlot.empty with offeredTo := (u.slot i).offeredTo } ∧ s.Reoffers u i
                    ∧ u.walker.waitList = given.walker.waitList
                    ∧ u.latch .tableError = (s.latch .tableError).after p (some (BitVec.ofNat 32 addr))
                    ∧ (∀ c, (s.port p).engine.current = some c → (u.port p).Tells (s.port p).engine c .tableError)
                    ∧ (∀ c, c ≠ .tableError → u.latch c = s.latch c) ∧ u.cache = s.cache ∧ s.SameTables u ∧ s.SameLocks u
                    ∧ u.staleWalks = s.staleWalks ∧ u.cacheHits = s.cacheHits ∧ u.cacheMisses = s.cacheMisses))))
  ∧ ∀ (s : State) (i : SlotId),
      (∀ q : Port, s.Open i → s.NextEligible q →
        s.offerSlot i =
          { s with walker := { s.walker with slots := s.walker.slots.set i { s.slot i with offeredTo := some q }, pointer := q } })
      ∧ (¬s.Open i ∨ (∀ q : Port, ¬s.Eligible q) → s.offerSlot i = s)
      ∧ s.offerSlots = (((s.offerSlot 0).offerSlot 1).offerSlot 2).offerSlot 3

/-- A descriptor read completes: the eight bytes are judged in the order malformed, absent, page beyond the count. A bad one ends the walk: every waiter is told TABLE_ERROR, SEGMENT_ABSENT or PAGE_LIMIT in its own reply, the slot is FREE and offered on, and a malformed one, or one that cannot be read, gives a TABLE_ERROR occurrence. A good one takes its walk to MAP with the rights codes, guard and no-cache flag kept and its map update placed or waiting for READY, or, where the map entry lies outside both targets, ends it with TABLE_ERROR (R8, R10, R12, R47, R51, R52, R55 to R58, R60, R84, R196; log 15 for the fields without meaning of the FREE slot). -/
def Obligations.DescriptorsAreJudged : Prop :=
  ∀ (s : State) (i : SlotId) (t : Target) (op : MemOp), s.Quiet → s.CanComplete t op → op.requester = .slot i → op.kind = .read 8 →
    (s.slot i).phase = .descriptor →
    ∀ (word : BitVec 32) (count flags guard : Byte), word.toNat = beNat ((s.store t).bytes op.addr 4) →
      count = (s.store t).byte (op.addr + 4) → flags = (s.store t).byte (op.addr + 5) → guard = (s.store t).byte (op.addr + 6) →
      (s.readFailure t op.addr 8 ≠ none ∨ 3 < (flags.toNat / 8) % 8 ∨ 3 < flags.toNat % 8 ∨ (32 ≤ guard.toNat ∧ guard.toNat ≤ 254) →
        ∃ u, exec (.descriptorReadComplete i) s = .next u ∧ (u.slot i).phase = .free ∧ s.FreesSlot u i ∧ s.TellsWaiters u i .tableError
          ∧ u.latch .tableError = (s.latch .tableError).after (s.slot i).origin (some (s.slot i).tableAddress)
          ∧ (∀ c, c ≠ .tableError → u.latch c = s.latch c)
          ∧ u.staleWalks = s.staleWalks + (if (s.slot i).stale then 1 else 0) ∧ s.SameTables u ∧ s.SameLocks u ∧ u.cache = s.cache)
      ∧ (s.readFailure t op.addr 8 = none →
          ∀ (admin user : Rights) (held : Option LockId), (flags.toNat / 8) % 8 = admin.code.toNat → flags.toNat % 8 = user.code.toNat →
          guard.toNat = (match held with
            | some n => n.val
            | none => 255) →
          (flags.getLsbD 7 = true →
            ∃ u, exec (.descriptorReadComplete i) s = .next u ∧ (u.slot i).phase = .free ∧ s.FreesSlot u i
              ∧ s.FaultsWaiters u i .segmentAbsent ∧ u.latches = s.latches
              ∧ u.staleWalks = s.staleWalks + (if (s.slot i).stale then 1 else 0) ∧ s.SameTables u ∧ s.SameLocks u ∧ u.cache = s.cache)
          ∧ (flags.getLsbD 7 = false → count.toNat + 1 ≤ (s.slot i).key.page.toNat →
            ∃ u, exec (.descriptorReadComplete i) s = .next u ∧ (u.slot i).phase = .free ∧ s.FreesSlot u i
              ∧ s.FaultsWaiters u i .pageLimit ∧ u.latches = s.latches
              ∧ u.staleWalks = s.staleWalks + (if (s.slot i).stale then 1 else 0) ∧ s.SameTables u ∧ s.SameLocks u ∧ u.cache = s.cache)
          ∧ (flags.getLsbD 7 = false → (s.slot i).key.page.toNat < count.toNat + 1 →
              ∀ addr : Nat, addr = (word.toNat % 2 ^ 30) * 4 + 4 * (s.slot i).key.page.toNat →
                ∃ u, exec (.descriptorReadComplete i) s = .next u ∧ s.SameTables u ∧ s.SameLocks u ∧ u.cache = s.cache
                  ∧ u.walksStarted = s.walksStarted ∧ u.cacheHits = s.cacheHits ∧ u.cacheMisses = s.cacheMisses
                  ∧ (∀ (x : Target) (wait : Bool),
                      (x = .near ∧ wait = false ∧ addr < 65536)
                        ∨ (x = .external ∧ (wait = true ↔ s.pool.state ≠ .ready) ∧ 65536 ≤ addr ∧ addr < s.pool.top ∧ addr < 2 ^ 32) →
                      u.slot i =
                          { s.slot i with
                            phase := .map, tableAddress := BitVec.ofNat 32 addr, waitingReady := wait || (s.slot i).waitingReady
                            carried := { adminRights := admin, userRights := user, guard := held, noCache := flags.getLsbD 6 } }
                        ∧ (wait = false →
                            ({ requester := .slot i, kind := .mapUpdate (s.slot i).setModified, addr, discard := false } : MemOp)
                              ∈ (u.arbiter x).waiting ++ (u.arbiter x).taken)
                        ∧ u.latches = s.latches ∧ u.staleWalks = s.staleWalks ∧ u.ports = s.ports)
                  ∧ (65536 ≤ addr → s.pool.top ≤ addr →
                      (u.slot i).phase = .free ∧ s.FreesSlot u i ∧ s.TellsWaiters u i .tableError
                        ∧ u.latch .tableError = (s.latch .tableError).after (s.slot i).origin (some (BitVec.ofNat 32 addr))
                        ∧ (∀ c, c ≠ .tableError → u.latch c = s.latch c)
                        ∧ u.staleWalks = s.staleWalks + (if (s.slot i).stale then 1 else 0))))

/-- A map update completes. Resident: used is set, and modified where the update carries it, every other bit of the entry and every other byte as before; the walk's result is installed when the slot is not stale and no-cache is clear, and then delivered: a waiter goes on to check 4 with it, unless it needs modified and the result's modified-known is false; then it repeats its lookup, which against the entry just installed, or where no entry stands, is a miss, and stays in TRANSLATE. Not resident: every waiter is told PAGE_ABSENT; unreadable: TABLE_ERROR; nothing is written and nothing installed. The slot is FREE and offered on (R11, R29, R47, R53, R54, R56 to R58, R60, R84, R197; log 15 for its fields without meaning). -/
def Obligations.MapUpdatesComplete : Prop :=
  ∀ (s : State) (i : SlotId) (t : Target) (op : MemOp) (m : Bool) (word : BitVec 32), s.Quiet → s.MemoryCanonical → s.CanComplete t op →
    op.requester = .slot i → op.kind = .mapUpdate m → (s.slot i).phase = .map → word.toNat = beNat ((s.store t).bytes op.addr 4) →
    (s.readFailure t op.addr 4 = none → word.getLsbD 31 = true →
      ∃ u, exec (.mapUpdateComplete i) s = .next u
        ∧ s.Wrote u t op.addr (beBytes 4 (word ||| 0x40000000#32 ||| (if m then 0x20000000#32 else 0#32)).toNat)
        ∧ (u.slot i).phase = .free ∧ s.FreesSlot u i
        ∧ u.staleWalks = s.staleWalks + (if (s.slot i).stale then 1 else 0) ∧ u.latches = s.latches
        ∧ s.SameLocks u ∧ u.windows = s.windows ∧ u.anchors = s.anchors ∧ u.walksStarted = s.walksStarted
        ∧ (∀ q : Port, (∀ w ∈ (s.slot i).waiters, w.port ≠ q) → u.port q = s.port q)
        ∧ (((s.slot i).waiters.map Waiter.port).Nodup → ∀ (tr : Translation) (c : Current), ∀ w ∈ (s.slot i).waiters,
            tr =
              { frame := word.extractLsb' 0 18, adminRights := (s.slot i).carried.adminRights
                userRights := (s.slot i).carried.userRights, guard := (s.slot i).carried.guard
                modifiedKnown := word.getLsbD 29 || m } →
            (s.port w.port).engine.current = some c →
            (w.needsModified = false ∨ tr.modifiedKnown = true → s.ProceedsWith u w.port c tr)
            ∧ (w.needsModified = true → tr.modifiedKnown = false → c.ops.translatesWrite = true →
                keyOf (s.port w.port).engine.portion.addr = (s.slot i).key →
                ((s.slot i).stale = false ∧ (s.slot i).carried.noCache = false) ∨ s.Lacks (s.slot i).key →
                s.GoesTo u w.port .translate (s.port w.port).engine.translation
                  ∧ ((s.slot i).waiters = [w] → u.cacheMisses = s.cacheMisses + 1 ∧ u.cacheHits = s.cacheHits)))
        ∧ ((s.slot i).stale = false → (s.slot i).carried.noCache = false →
            ∃ way : Bool,
              u.Holds (s.slot i).key way
                { frame := word.extractLsb' 0 18, adminRights := (s.slot i).carried.adminRights
                  userRights := (s.slot i).carried.userRights, guard := (s.slot i).carried.guard
                  modifiedKnown := word.getLsbD 29 || m })
        ∧ ((s.slot i).stale = true ∨ (s.slot i).carried.noCache = true →
            ∀ x : Fin 128, u.cache[x].way0 = s.cache[x].way0 ∧ u.cache[x].way1 = s.cache[x].way1))
    ∧ (s.readFailure t op.addr 4 = none → word.getLsbD 31 = false →
        ∃ u, exec (.mapUpdateComplete i) s = .next u ∧ s.SameTables u ∧ s.SameLocks u ∧ (u.slot i).phase = .free ∧ u.latches = s.latches
          ∧ s.FreesSlot u i ∧ s.FaultsWaiters u i .pageAbsent
          ∧ u.staleWalks = s.staleWalks + (if (s.slot i).stale then 1 else 0)
          ∧ ∀ x : Fin 128, u.cache[x].way0 = s.cache[x].way0 ∧ u.cache[x].way1 = s.cache[x].way1)
    ∧ (s.readFailure t op.addr 4 ≠ none →
        ∃ u, exec (.mapUpdateComplete i) s = .next u ∧ s.SameTables u ∧ s.SameLocks u ∧ (u.slot i).phase = .free
          ∧ s.FreesSlot u i ∧ s.TellsWaiters u i .tableError
          ∧ (∀ c, c ≠ .tableError → u.latch c = s.latch c)
          ∧ u.latch .tableError = (s.latch .tableError).after (s.slot i).origin (some (s.slot i).tableAddress)
          ∧ u.staleWalks = s.staleWalks + (if (s.slot i).stale then 1 else 0)
          ∧ ∀ x : Fin 128, u.cache[x].way0 = s.cache[x].way0 ∧ u.cache[x].way1 = s.cache[x].way1)

/-! ### Cache and decode -/

/-- The set of a key is (page mod 128) XOR (segment mod 128) XOR (16 × space), between 0 and 127 (R23). -/
def Obligations.SetIndexFormula : Prop :=
  ∀ k : Key,
    (setIndex k).val = Nat.xor (Nat.xor (k.page.toNat % 128) (k.segment.toNat % 128)) (16 * k.space.toNat) ∧ (setIndex k).val ≤ 127

/-- A lookup hits where a way holds the key, unless it is a write and modified-known is false; a hit names its way in the indicator and counts one hit, and a miss changes the count of misses alone; an install takes the way of its key, else the lowest invalid way, else the way the indicator does not name, and names its way (R24 to R27, R30, R31). -/
def Obligations.LookupAndInstall : Prop :=
  ∀ (s : State) (k : Key),
    (∀ (way : Bool) (tr : Translation) (write : Bool), s.Holds k way tr → (way = true → ∀ e ∈ s.cache[setIndex k].way0, e.key ≠ k) →
      (write = false ∨ tr.modifiedKnown = true → s.lookup k write = (.hit tr, s.afterHit k way))
      ∧ (write = true → tr.modifiedKnown = false →
          s.lookup k write = (.missNeedingModified, { s with cacheMisses := s.cacheMisses + 1 })))
    ∧ (∀ write : Bool, s.Lacks k →
        s.lookup k write = (if write then .missNeedingModified else .miss, { s with cacheMisses := s.cacheMisses + 1 }))
    ∧ ∀ (tr : Translation) (c : CacheSet), c = s.cache[setIndex k] →
        ((∃ e, c.way0 = some e ∧ e.key = k) ∨ (c.way0 = none ∧ ∀ e ∈ c.way1, e.key ≠ k)
            ∨ (c.recent = true ∧ (∃ e, c.way0 = some e ∧ e.key ≠ k) ∧ ∃ e, c.way1 = some e ∧ e.key ≠ k) →
          s.installEntry k tr = { s with cache := s.cache.set (setIndex k) { c with way0 := some ⟨k, tr⟩, recent := false } })
        ∧ (((∀ e ∈ c.way0, e.key ≠ k) ∧ ∃ e, c.way1 = some e ∧ e.key = k) ∨ ((∃ e, c.way0 = some e ∧ e.key ≠ k) ∧ c.way1 = none)
            ∨ (c.recent = false ∧ (∃ e, c.way0 = some e ∧ e.key ≠ k) ∧ ∃ e, c.way1 = some e ∧ e.key ≠ k) →
          s.installEntry k tr = { s with cache := s.cache.set (setIndex k) { c with way1 := some ⟨k, tr⟩, recent := true } })

/-- The decode of a physical address for a class, by the first of the four steps that applies (R67, R70). -/
def Obligations.DecodeOrder : Prop :=
  ∀ (s : State) (a : PhysAddress) (k : PortClass), s.pool.top ≤ 2 ^ 32 →
    ((∃ i : WindowId, s.InWindow .exclude i a) → s.decode a k = .refused)
    ∧ ((∃ i : WindowId, s.InWindow .protect i a) → k = .user → s.decode a k = .refused)
    ∧ (∀ i : WindowId, (∀ j : WindowId, ¬s.InWindow .exclude j a) → (∀ j : WindowId, ¬s.InWindow .protect j a) ∨ k = .administrative →
        s.InWindow .relocate i a → (∀ j : WindowId, j < i → ¬s.InWindow .relocate j a) →
        ∀ x : Nat, x = s.windows[i].target.toNat * 65536 + (a.toNat - s.windows[i].base.toNat * 65536) →
          (s.pool.top ≤ x → s.decode a k = .refused) ∧ (x < s.pool.top → s.decode a k = .external (BitVec.ofNat 32 x)))
    ∧ ((∀ j : WindowId, ¬s.InWindow .exclude j a) → (∀ j : WindowId, ¬s.InWindow .protect j a) ∨ k = .administrative →
        (∀ j : WindowId, ¬s.InWindow .relocate j a) →
        (a.toNat < 65536 → s.decode a k = .near (BitVec.ofNat 16 a.toNat))
        ∧ (65536 ≤ a.toNat → a.toNat < s.pool.top → s.decode a k = .external a)
        ∧ (65536 ≤ a.toNat → s.pool.top ≤ a.toNat → s.decode a k = .refused))

/-! ### The pool -/

/-- The end of the fill: every external byte is 0 with a valid check bit, the pool READY; the SET_POOL's engine replies OK; a portion that waited for READY takes checks 5 and 6 again, as the locks, the windows and the pool stand now; a walk that waited waits no more, its descriptor read or map update of its table address placed with the pool arbiter; a disturbance fails the check bit of one byte of a READY pool and does nothing else (R76, R77, R83, R99; log 13). An end of a fill outside INITIALIZING, and a disturbance outside a READY pool or at an address not below pool top, are events that the state rules out, and in the model they change nothing (log 2). A fill that ends during a device reset makes the pool READY and does nothing else (R186). -/
def Obligations.PoolReadyAndDisturbance : Prop :=
  (∀ s : State, s.Quiet →
    (s.pool.state = .initializing →
      ∃ u, exec .poolReady s = .next u ∧ u.pool = { s.pool with state := .ready, cells := [], failed := [] } ∧ u.near = s.near
        ∧ (∀ (p : Port) (tag : Tag) (size : BitVec 16), (s.port p).engine.state = .poolWait →
            (s.port p).engine.current = some ⟨tag, .setPool size⟩ →
            (u.port p).engine = Engine.idle ∧ Record.done tag .ok none none none none .plain ∈ (u.port p).outgoing)
        ∧ (∀ p : Port, (s.port p).engine.current ≠ none → (u.port p).engine.state ≠ .poolWait)
        ∧ (∀ (ready : State) (p : Port) (c : Current), ready = { s with pool := { s.pool with state := .ready, cells := [], failed := [] } } →
            (s.port p).engine.state = .poolWait → (s.port p).engine.current = some c →
            (c.ops.physical = true → (s.port p).engine.translation = none →
              ready.Issues u p c ((s.port p).engine.portion.addr.setWidth 32) .administrative none)
            ∧ ∀ tr : Translation, c.ops.isLogical = true → (s.port p).engine.translation = some tr →
                (s.GuardLets p c tr →
                  ready.Issues u p c (tr.frame ++ offsetOf (s.port p).engine.portion.addr) (s.port p).cls (some tr))
                ∧ (¬s.GuardLets p c tr → s.FaultsWith u p c .lockHeld))
        ∧ (∀ i : SlotId, (u.slot i).waitingReady = false)
        ∧ (∀ i : SlotId, (s.slot i).waitingReady = true →
            ({ requester := .slot i, addr := (s.slot i).tableAddress.toNat, discard := false
               kind := if (s.slot i).phase = .map then .mapUpdate (s.slot i).setModified else .read 8 } : MemOp)
              ∈ u.poolArbiter.waiting ++ u.poolArbiter.taken)
        ∧ s.SameLocks u ∧ u.cache = s.cache ∧ u.windows = s.windows ∧ u.anchors = s.anchors ∧ u.latches = s.latches ∧ s.SameCounts u)
    ∧ (s.pool.state ≠ .initializing → exec .poolReady s = .next s)
    ∧ (∀ a : PhysAddress, s.pool.state = .ready → a.toNat < s.pool.top →
        ∃ failed : List Nat, exec (.byteDisturbance a) s = .next { s with pool := { s.pool with failed } }
          ∧ ∀ x : Nat, x ∈ failed ↔ x = a.toNat ∨ x ∈ s.pool.failed)
    ∧ (∀ a : PhysAddress, s.pool.state ≠ .ready ∨ s.pool.top ≤ a.toNat → exec (.byteDisturbance a) s = .next s))
  ∧ ∀ s : State, s.power = .operating → s.draining = true → s.AtRest → s.pool.state = .initializing →
      exec .poolReady s = .next { s with pool := { s.pool with state := .ready, cells := [], failed := [] } }

/-! ### Time -/

/-- The prescaler counts one at each period of the reference clock until it stands at D; the period after that returns it to 0 and ends with a tick, which takes one from every running lease counter and every RUNNING timer; where the next period ends with no tick there is no tick event (R123, R142, R174; logs 2 and 9). Stated for a tick at which nothing expires. During a device reset the prescaler counts on, and its ticks reach no consumer, so that no lease and no timer expires and their rows are no events (R132, R174, R186; log 2). -/
def Obligations.ClockPeriodsAndTicks : Prop :=
  (∀ s : State, s.Quiet →
    (s.prescaler.toNat < s.divide.toNat →
      exec .referenceClockPeriod s = .next { s with prescaler := s.prescaler + 1 } ∧ exec .timebaseTick s = .next s)
    ∧ (s.divide.toNat ≤ s.prescaler.toNat →
        exec .referenceClockPeriod s = exec .timebaseTick s
        ∧ ((∀ n : LockId, (s.lock n).counter ≠ some 1 ∧ (s.lock n).counter ≠ some 0) →
            (∀ p : Port, (s.port p).timer ≠ .running 1 ∧ (s.port p).timer ≠ .running 0) →
            ∃ u, exec .timebaseTick s = .next u ∧ u = { s with prescaler := 0, locks := u.locks, ports := u.ports }
              ∧ (∀ n : LockId, u.lock n = { s.lock n with counter := (s.lock n).counter.map (· - 1) })
              ∧ ∀ p : Port,
                  u.port p =
                    { s.port p with
                      timer := match (s.port p).timer with
                        | .running k => .running (k - 1)
                        | .stopped => .stopped
                        | .expired => .expired })))
  ∧ ∀ s : State, s.power = .operating → s.draining = true → s.AtRest →
      (s.prescaler.toNat < s.divide.toNat →
        exec .referenceClockPeriod s = .next { s with prescaler := s.prescaler + 1 } ∧ exec .timebaseTick s = .next s)
      ∧ (s.divide.toNat ≤ s.prescaler.toNat →
          exec .referenceClockPeriod s = .next { s with prescaler := 0 } ∧ exec .timebaseTick s = .next { s with prescaler := 0 }
            ∧ (∀ n : LockId, (s.lock n).counter = some 1 → exec (.leaseExpiry n) s = .next s)
            ∧ ∀ p : Port, (s.port p).timer = .running 1 → exec (.coalescingTimerExpiry p) s = .next s)

/-- The tick that brings lock n's lease counter to 0, with every lease that expires at it, by rising lock number: the owner loses the lock and gets LEASE_LOST; the next pending port in ring order is granted it with its lease loaded and its GRANT, or it is free; the records of a lower lock come first in every queue, whatever batches form; the LEASE_EXPIRED latch takes one occurrence of each, with the port and the lock number, so that the lowest lock's sets it; one more lease expiry for each. The other locks lose one tick alone. Where the tick is not due, or the counter not at 1, there is no such event (R120, R124, R128, R180; logs 2 and 9). -/
def Obligations.LeasesExpire : Prop :=
  ∀ (s : State) (n : LockId), s.Quiet → s.LockLaw →
    (s.divide.toNat ≤ s.prescaler.toNat → (s.lock n).counter = some 1 →
      ∃ u, exec (.leaseExpiry n) s = .next u
        ∧ u = { s with
                prescaler := 0, leaseExpiries := s.leaseExpiries + BitVec.ofNat 32 s.expiring.length, locks := u.locks, ports := u.ports
                latches := u.latches, freeCount := u.freeCount }
        ∧ u.latch .leaseExpired =
            s.expiring.foldl (fun l x => l.after ((s.lock x).owner.getD 0) (some (BitVec.ofNat 32 x.val))) (s.latch .leaseExpired)
        ∧ (∀ c : AlertCause, c ≠ .leaseExpired → u.latch c = s.latch c)
        ∧ (∀ x ∈ s.expiring, ∀ p : Port, (s.lock x).owner = some p →
            Record.leaseLost x ∈ (u.port p).outgoing
              ∧ ((∀ q : Port, (s.lock x).pending[q] = none) → u.lock x = { s.lock x with owner := none, counter := none })
              ∧ ∀ (k : Port) (held : Tag), (s.lock x).nextAfter p k held →
                  u.lock x = (s.lock x).grantedTo (p + k) ∧ Record.grant x held ∈ (u.port (p + k)).outgoing)
        ∧ (∀ q : Port,
            (u.port q).outgoing.filter Record.isNoAlert =
              (s.port q).outgoing.filter Record.isNoAlert ++ s.expiring.flatMap fun x => (s.lock x).expiryRecords x q)
        ∧ ∀ j : LockId, (s.lock j).counter ≠ some 1 → u.lock j = { s.lock j with counter := (s.lock j).counter.map (· - 1) })
    ∧ (s.prescaler.toNat < s.divide.toNat ∨ (s.lock n).counter ≠ some 1 → exec (.leaseExpiry n) s = .next s)

/-- The tick that brings port p's coalescing timer to 0 makes it EXPIRED, and a batch is then due at p while its queue holds records; every other RUNNING timer loses one tick. Where the tick is not due, or the timer not at 1, there is no such event (R138, R142; logs 2 and 9). Stated for a tick at which no lease expires. -/
def Obligations.TimersExpire : Prop :=
  ∀ (s : State) (p : Port), s.Quiet →
    (s.divide.toNat ≤ s.prescaler.toNat → (s.port p).timer = .running 1 →
      (∀ n : LockId, (s.lock n).counter ≠ some 1 ∧ (s.lock n).counter ≠ some 0) →
      ∃ u, exec (.coalescingTimerExpiry p) s = .next u
        ∧ u.port p = ({ s.port p with timer := .expired } : PortRec).report
        ∧ (∀ q : Port, ∀ k : Nat, (s.port q).timer = .running k → 1 < k → u.port q = { s.port q with timer := .running (k - 1) })
        ∧ (∀ n : LockId, u.lock n = { s.lock n with counter := (s.lock n).counter.map (· - 1) })
        ∧ u = { s with prescaler := 0, locks := u.locks, ports := u.ports })
    ∧ (s.prescaler.toNat < s.divide.toNat ∨ (s.port p).timer ≠ .running 1 → exec (.coalescingTimerExpiry p) s = .next s)

/-! ### Reporting -/

/-- When a batch is due, what it takes, when it carries WAKE, and what it leaves: the oldest sixteen records or all, WAKE in NORMAL or for an urgent record taken or a flush-marked frame waiting, AWAITING after WAKE, the timer reloaded; a batch goes before a waiting DATA frame, which goes before nothing else (R135, R138 to R141, R148). Urgent are GRANT, LEASE_LOST, FENCE_DONE and ALERT records and the DONE records so marked, as a flush-flagged WRITE's is and no other access request's (R105, R135; that a mark held with a DONE record says so is the model's: log 18, and log 27 for the BUSY reply of a DEVICE_RESET). The transmitter chooses when it is free and the port ACTIVE; a pending frame goes into the slot that its choice empties, counts if its status is a fault, and leaves the engine IDLE (R106, R108, R148). None chooses during a device reset, and each chooses for itself (R148, R153). -/
def Obligations.BatchesForm : Prop :=
  (∀ r : PortRec,
    (r.batchDue = true ↔
      r.completionQueue ≠ []
        ∧ ((∃ x ∈ r.completionQueue, x.urgent = true)
          ∨ (r.wake = .normal ∧ r.countThreshold ≠ 0 ∧ r.countThreshold ≤ r.completionQueue.length)
          ∨ (r.wake = .awaiting ∧ r.heldThreshold ≠ 0 ∧ r.heldThreshold ≤ r.completionQueue.length)
          ∨ r.timer = .expired ∨ 16 ≤ r.completionQueue.length ∨ r.dataSlot ≠ none))
    ∧ (∀ wakes : Bool,
        (wakes = true ↔
          r.wake = .normal ∨ (∃ x ∈ r.completionQueue.take 16, x.urgent = true) ∨ ∃ f, r.dataSlot = some f ∧ f.flush = true) →
        r.batchDue = true → r.transmitter = none → r.state = .active →
        r.beginFrame =
          { r with
            completionQueue := r.completionQueue.drop 16, transmitter := some (.batch wakes (r.completionQueue.take 16))
            wake := if wakes then .awaiting else r.wake
            timer := if r.tickInterval = 0 then .stopped else .running r.tickInterval })
    ∧ (∀ f : SlotFrame, r.batchDue = false → r.dataSlot = some f →
        r.completionQueue = [] ∧ r.beginFrame = { r with transmitter := some (.data f.frame), dataSlot := none })
    ∧ (r.batchDue = false → r.dataSlot = none → r.beginFrame = r)
    ∧ (r.transmitter ≠ none ∨ r.state ≠ .active → r.report = r)
    ∧ (r.transmitter = none → r.state = .active →
        (r.batchDue = false → r.dataSlot = none → r.report = r)
        ∧ (r.batchDue = true → r.dataSlot ≠ none ∨ r.engine.pendingFrame = none → r.report = r.beginFrame)
        ∧ (r.batchDue = false → r.engine.pendingFrame = none → r.report = r.beginFrame)
        ∧ ∀ f g : SlotFrame, r.batchDue = false → r.dataSlot = some f → r.engine.pendingFrame = some g →
            r.report =
              { r with
                transmitter := some (.data f.frame), dataSlot := some g, engine := Engine.idle
                faultedReplies :=
                  if g.frame.status = .ok ∨ g.frame.status = .queued ∨ g.frame.status = .partialDone then r.faultedReplies
                  else r.faultedReplies + 1 }))
  ∧ (∀ tag st reason done fault value mark, (Record.done tag st reason done fault value mark).urgent = true ↔ mark ≠ .plain)
  ∧ (∀ n tag, (Record.grant n tag).urgent = true) ∧ (∀ n, (Record.leaseLost n).urgent = true)
  ∧ (∀ tag outcome, (Record.fenceDone tag outcome).urgent = true) ∧ (∀ c count p a, (Record.alert c count p a).urgent = true)
  ∧ (∀ ops : Operands, ops.doneMark ≠ .plain ↔ ∃ a data, ops = .write a true data)
  ∧ ∀ s : State,
      (s.draining = true → s.reportAll = s)
      ∧ (s.draining = false → s.reportAll = { s with ports := s.reportAll.ports } ∧ ∀ p : Port, s.reportAll.port p = (s.port p).report)

/-! ### Encodings -/

/-- What a request command's payload carries reads back as its operands, at every value the fields allow (R191). The frames the part sends, byte by byte: header, payload and check; a DATA frame's status, presence flags, the fields present in order, and its body; a BATCH frame's mark, record count and records; each kind of record; the codes of status, cause and rights (R12, R190, R192 to R195). -/
def Obligations.OperandsReadBack : Prop :=
  (∀ (p : Port) (tag : Tag),
    (∀ a len flags, (Instr.read p tag a len flags).request.bind (fun x => readOperands x.2) = some (.read a len (flags.getLsbD 0)))
    ∧ (∀ a flags data, (Instr.write p tag a flags data).wellFormed = true →
        (Instr.write p tag a flags data).request.bind (fun x => readOperands x.2) = some (.write a (flags.getLsbD 0) data))
    ∧ (∀ a, (Instr.probe p tag a).request.bind (fun x => readOperands x.2) = some (.probe a))
    ∧ (∀ a len, (Instr.physRead p tag a len).request.bind (fun x => readOperands x.2) = some (.physRead a len))
    ∧ (∀ a data, (Instr.physWrite p tag a data).wellFormed = true →
        (Instr.physWrite p tag a data).request.bind (fun x => readOperands x.2) = some (.physWrite a data))
    ∧ (∀ n, (Instr.lock p tag n).request.bind (fun x => readOperands x.2) = some (.lock n))
    ∧ (∀ n, (Instr.unlock p tag n).request.bind (fun x => readOperands x.2) = some (.unlock n))
    ∧ (∀ n, (Instr.lockWithdraw p tag n).request.bind (fun x => readOperands x.2) = some (.lockWithdraw n))
    ∧ (∀ n, (Instr.lockQuery p tag n).request.bind (fun x => readOperands x.2) = some (.lockQuery n))
    ∧ (∀ n lease, (Instr.setLock p tag n lease).request.bind (fun x => readOperands x.2) = some (.setLock n lease))
    ∧ (∀ space base length mask,
        (Instr.setAnchor p tag space base length mask).request.bind (fun x => readOperands x.2) = some (.setAnchor space base length mask))
    ∧ (∀ scope space segment page,
        (Instr.purge p tag scope space segment page).request.bind (fun x => readOperands x.2) = some (.purge scope space segment page))
    ∧ (∀ window kind base limit target,
        (Instr.setWindow p tag window kind base limit target).request.bind (fun x => readOperands x.2) =
          some (.setWindow window kind base limit target))
    ∧ (∀ size, (Instr.setPool p tag size).request.bind (fun x => readOperands x.2) = some (.setPool size))
    ∧ (∀ port cls c h t,
        (Instr.setPort p tag port cls c h t).request.bind (fun x => readOperands x.2) = some (.setPort port cls c h t))
    ∧ (∀ set, (Instr.fence p tag set).request.bind (fun x => readOperands x.2) = some (.fence set))
    ∧ (Instr.unfence p tag).request.bind (fun x => readOperands x.2) = some .unfence
    ∧ (∀ port, (Instr.portReset p tag port).request.bind (fun x => readOperands x.2) = some (.portReset port))
    ∧ (∀ divide, (Instr.setTimebase p tag divide).request.bind (fun x => readOperands x.2) = some (.setTimebase divide))
    ∧ (∀ clear, (Instr.counters p tag clear).request.bind (fun x => readOperands x.2) = some (.counters clear))
    ∧ (∀ cause, (Instr.alertClear p tag cause).request.bind (fun x => readOperands x.2) = some (.alertClear cause))
    ∧ (Instr.deviceReset p tag).request.bind (fun x => readOperands x.2) = some .deviceReset)
  ∧ (∀ (kind : Byte) (tag : Tag) (payload front : List Byte), front = [kind, tag] ++ bigEndian 2 payload.length ++ payload →
      frameBytes kind tag payload = front ++ bigEndian 2 (frameCheck front).toNat)
  ∧ frameCheck [0x31, 0x32, 0x33, 0x34, 0x35, 0x36, 0x37, 0x38, 0x39] = 0x29B1#16
  ∧ (∀ f : DataFrame, (OutFrame.data f).encode = frameBytes 0xA0 f.tag f.payload)
  ∧ (∀ f : DataFrame,
      f.payload =
        [f.status.code, flagsByte f.reason.isSome f.doneCount.isSome f.faultAddress.isSome false]
          ++ presentFields f.reason f.doneCount f.faultAddress ++ f.body.encode)
  ∧ DataBody.empty.encode = [] ∧ (∀ data : List Byte, (DataBody.bytes data).encode = data)
  ∧ (∀ (tr : Translation) (outcome : DecodeOutcome),
      (DataBody.probe tr outcome).encode =
        bigEndian 3 tr.frame.toNat ++ [tr.adminRights.code, tr.userRights.code] ++ [tr.guard.elim 255 fun n => BitVec.ofNat 8 n.val]
          ++ [if tr.modifiedKnown then 1 else 0]
          ++ (match outcome with
            | .near a => 0 :: bigEndian 4 a.toNat
            | .external a => 1 :: bigEndian 4 a.toNat
            | .refused => [2, 0, 0, 0, 0]))
  ∧ (∀ (owner : Option Port) (waiting : BitVec 8) (lease remaining : BitVec 16),
      (DataBody.lock owner waiting lease remaining).encode =
        [owner.elim 255 fun p => BitVec.ofNat 8 p.val, waiting] ++ bigEndian 2 lease.toNat ++ bigEndian 2 remaining.toNat)
  ∧ (∀ values : List (BitVec 32), (DataBody.counters values).encode = values.flatMap fun v => bigEndian 4 v.toNat)
  ∧ (∀ (wake : Bool) (records : List Record),
      (OutFrame.batch wake records).encode =
        frameBytes 0xA1 0 ([if wake then 1 else 0, BitVec.ofNat 8 records.length] ++ records.flatMap Record.encode))
  ∧ (∀ (tag : Tag) (st : Status) (reason : Option Status) (done : Option (BitVec 16)) (fault : Option (BitVec 40))
        (value : Option (BitVec 32)) (mark : DoneMark),
      (Record.done tag st reason done fault value mark).encode =
        [1, flagsByte reason.isSome done.isSome fault.isSome value.isSome, tag, st.code] ++ presentFields reason done fault
          ++ value.elim [] fun v => bigEndian 4 v.toNat)
  ∧ (∀ (n : LockId) (tag : Tag), (Record.grant n tag).encode = [2, 0, BitVec.ofNat 8 n.val, tag])
  ∧ (∀ n : LockId, (Record.leaseLost n).encode = [3, 0, BitVec.ofNat 8 n.val])
  ∧ (∀ tag : Tag, (Record.fenceDone tag .idle).encode = [4, 0, tag, 0] ∧ (Record.fenceDone tag .cancelled).encode = [4, 0, tag, 1])
  ∧ (∀ (c : AlertCause) (count : BitVec 16) (port : Option Port) (address : Option (BitVec 32)),
      (Record.alert c count port address).encode =
        [5, flagsByte port.isSome address.isSome false false, c.code] ++ bigEndian 2 count.toNat
          ++ port.elim [] (fun p => [BitVec.ofNat 8 p.val]) ++ address.elim [] fun a => bigEndian 4 a.toNat)
  ∧ [Status.ok, .queued, .partialDone, .malformed, .notPermitted, .busy, .spaceDenied, .segmentLimit, .tableError, .segmentAbsent, .pageLimit,
        .pageAbsent, .rights, .lockHeld, .refused, .dataError, .alreadyHeld, .limit, .notOwner, .notPending].map Status.code =
      [0x00, 0x01, 0x02, 0x10, 0x11, 0x12, 0x20, 0x21, 0x22, 0x23, 0x24, 0x25, 0x26, 0x27, 0x28, 0x30, 0x40, 0x41, 0x42, 0x43]
  ∧ [AlertCause.tableError, .dataError, .linkDiscard, .overrun, .leaseExpired, .linkLost].map AlertCause.code = [1, 2, 3, 4, 5, 6]
  ∧ [Rights.noAccess, .read, .write, .readWrite].map Rights.code = [0, 1, 2, 3]

/-! ### Laws that every step keeps -/

/-- Every step leaves nothing undone: in operation, no engine may take a request, no transmitter has a frame to begin, no arbiter an operation to take, no reset is done and unreported, no FREE slot could be offered, no PENDING fence is met, no device reset could end (R47, R79, R88, R148, R167, R172, R187; log 1: what the rules place at an event happens within its step). -/
def Obligations.EveryStepSettles : Prop := ∀ s t : State, s.Settled → step s = .next t → t.Settled

/-- Every step keeps the two stores and the failed-byte list in canonical form. -/
def Obligations.MemoryStaysCanonical : Prop := ∀ s t : State, s.MemoryCanonical → step s = .next t → t.MemoryCanonical

/-- Every step keeps the law of the lock table: one owner at most, a free lock without pending set and lease counter, no port owner and pending at once; and no port's holdings exceed four (R111, R112). -/
def Obligations.LockLawsAreKept : Prop :=
  ∀ s t : State, s.LockLaw → s.HoldingsLaw → step s = .next t → t.LockLaw ∧ t.HoldingsLaw

/-- No completion queue ever holds more than 40 records: every step keeps the budget of what may still be added, which implies the bound (R133 and the section on the bound of forty). -/
def Obligations.QueuesHoldAtMostForty : Prop :=
  (∀ s t : State, s.LockLaw → s.HoldingsLaw → s.QueueBudget → step s = .next t → t.QueueBudget) ∧ ∀ s : State, s.QueueBudget → s.QueueBound

/-- Every step keeps the law of the cache (an entry in its own set, one entry for a key), the law of the walk slots (no two busy slots that are not stale walk one key, only FREE slots are offered) and the law of the pool and the arbiters (pool top 0 in UNSET and 1 MiB to 4 GiB after, the pool arbiter empty until READY, at most one near and four pool operations in progress) (R23, R30, R42, R47, R74 to R76, R80). -/
def Obligations.BlockLawsAreKept : Prop :=
  ∀ s t : State, step s = .next t → (s.CacheLaw → t.CacheLaw) ∧ (s.WalkLaw → t.WalkLaw) ∧ (s.PoolLaw → t.PoolLaw)

/-- Every step keeps the ranges of what the administration unit and the ports hold: anchors and windows that their requests let through, the prescaler count at most D, latches clear or with a count, C, H, T and the timer in range, at most 8 requests in a queue, at least one ADMINISTRATIVE port (R4, R67, R68, R136, R142, R161, R163, R174, R179). -/
def Obligations.AdministrationLawsAreKept : Prop :=
  ∀ s t : State, step s = .next t →
    (s.AnchorLaw → t.AnchorLaw) ∧ (s.WindowLaw → t.WindowLaw) ∧ (s.TimebaseLaw → t.TimebaseLaw) ∧ (s.LatchLaw → t.LatchLaw)
      ∧ (s.CoalescingLaw → t.CoalescingLaw) ∧ (s.QueueLaw → t.QueueLaw) ∧ (s.ClassLaw → t.ClassLaw)
end

