-- ==== Sys2Proof/Laws/Memory.lean ====
section
/-! SUPPORT. Memory in canonical form: every operation on a store and on the failed-byte list keeps the form, and what a byte reads as after a write. -/

namespace Sys2Proof.Machine

/-! ### The canonical form -/

/-- Every address of a store lies above a bound. -/
def Memory.above (x : Nat) : Memory → Prop
  | [] => True
  | (a, _) :: _ => x < a

theorem Memory.wf_cons {a : Nat} {b : Byte} {m : Memory} :
    Memory.wf ((a, b) :: m) = true ↔ b ≠ blankByte ∧ Memory.above a m ∧ Memory.wf m = true := by
  cases m with
  | nil => simp [Memory.wf, Memory.above]
  | cons c m => obtain ⟨a', b'⟩ := c; simp [Memory.wf, Memory.above, and_assoc]

theorem Memory.wf_nil : Memory.wf [] = true := rfl

theorem Memory.above_setByte {m : Memory} {y x : Nat} {v : Byte} (hm : Memory.above y m) (hx : y < x) :
    Memory.wf m = true → Memory.above y (Memory.setByte m x v) := by
  cases m with
  | nil => intro _; unfold Memory.setByte; split <;> simp [Memory.above, hx]
  | cons c m =>
      obtain ⟨a, b⟩ := c
      intro hwf
      have ha : y < a := hm
      obtain ⟨_, hab, _⟩ := Memory.wf_cons.1 hwf
      have hrest : Memory.above y m := by
        cases m with
        | nil => trivial
        | cons d m => exact lt_trans ha hab
      unfold Memory.setByte
      split
      · split <;> simp_all [Memory.above]
      · split
        · split <;> simp_all [Memory.above]
        · exact ha

/-- Writing a byte keeps the canonical form. -/
theorem Memory.wf_setByte {m : Memory} (h : Memory.wf m = true) (x : Nat) (v : Byte) : Memory.wf (m.setByte x v) = true := by
  induction m with
  | nil => unfold Memory.setByte; split <;> simp_all [Memory.wf]
  | cons c m ih =>
      obtain ⟨a, b⟩ := c
      obtain ⟨hb, hab, hm⟩ := Memory.wf_cons.1 h
      unfold Memory.setByte
      split
      · rename_i hlt
        split
        · exact h
        · rename_i hv
          exact Memory.wf_cons.2 ⟨hv, hlt, h⟩
      · split
        · split
          · exact hm
          · rename_i hv
            exact Memory.wf_cons.2 ⟨hv, hab, hm⟩
        · have hlt : a < x := by omega
          exact Memory.wf_cons.2 ⟨hb, Memory.above_setByte hab hlt hm, ih hm⟩

/-- Writing a run of bytes keeps the canonical form. -/
theorem Memory.wf_setBytes {m : Memory} (h : Memory.wf m = true) (a : Nat) (data : List Byte) : Memory.wf (m.setBytes a data) = true := by
  induction data generalizing m a with
  | nil => exact h
  | cons b data ih => exact ih (Memory.wf_setByte h a b) (a + 1)

/-! ### Reading after writing -/

theorem Memory.byte_of_above {m : Memory} {y x : Nat} (h : Memory.wf m = true) (ha : Memory.above y m) (hx : x ≤ y) : m.byte x = blankByte := by
  induction m generalizing y with
  | nil => rfl
  | cons c m ih =>
      obtain ⟨a, b⟩ := c
      obtain ⟨_, hab, hm⟩ := Memory.wf_cons.1 h
      have : y < a := ha
      have hne : x ≠ a := by omega
      simp only [Memory.byte, hne, if_false]
      exact ih hm hab (by omega)

/-- A byte of a store in canonical form after one byte is written. -/
theorem Memory.byte_setByte {m : Memory} (h : Memory.wf m = true) (x y : Nat) (v : Byte) :
    (m.setByte x v).byte y = if y = x then v else m.byte y := by
  induction m with
  | nil =>
      unfold Memory.setByte
      by_cases hv : v = blankByte <;> by_cases hy : y = x <;> simp [hv, hy, Memory.byte]
  | cons c m ih =>
      obtain ⟨a, b⟩ := c
      obtain ⟨_, hab, hm⟩ := Memory.wf_cons.1 h
      unfold Memory.setByte
      split
      · rename_i hlt
        split
        · rename_i hv
          by_cases hy : y = x
          · subst hy
            rw [if_pos rfl, hv]
            have hne : y ≠ a := by omega
            simp only [Memory.byte, hne, if_false]
            exact Memory.byte_of_above hm hab (by omega)
          · simp [hy]
        · by_cases hy : y = x
          · subst hy; simp [Memory.byte]
          · simp [Memory.byte, hy]
      · split
        · rename_i hxa
          subst hxa
          split
          · rename_i hv
            by_cases hy : y = x
            · subst hy
              simp [hv, Memory.byte_of_above hm hab (le_refl y)]
            · simp [Memory.byte, hy]
          · by_cases hy : y = x
            · subst hy; simp [Memory.byte]
            · simp [Memory.byte, hy]
        · rename_i h1 h2
          by_cases hya : y = a
          · subst hya
            have hne : y ≠ x := fun e => h2 (e ▸ rfl)
            simp [Memory.byte, hne]
          · simp only [Memory.byte, hya, if_false]
            exact ih hm

/-- A byte of a store in canonical form after a run of bytes is written. -/
theorem Memory.byte_setBytes {m : Memory} (h : Memory.wf m = true) (a y : Nat) (data : List Byte) :
    (m.setBytes a data).byte y = if a ≤ y ∧ y < a + data.length then data.getD (y - a) 0 else m.byte y := by
  induction data generalizing m a with
  | nil => simp [Memory.setBytes]
  | cons b data ih =>
      simp only [Memory.setBytes]
      rw [ih (Memory.wf_setByte h a b), Memory.byte_setByte h]
      by_cases h1 : y = a
      · subst h1; simp
      · by_cases h2 : a + 1 ≤ y ∧ y < a + 1 + data.length
        · have h3 : a ≤ y ∧ y < a + (b :: data).length := by simp only [List.length_cons]; omega
          rw [if_pos h2, if_pos h3]
          obtain ⟨k, hk⟩ : ∃ k, y - a = k + 1 := ⟨y - a - 1, by omega⟩
          have : y - (a + 1) = k := by omega
          simp [hk, this]
        · have h3 : ¬(a ≤ y ∧ y < a + (b :: data).length) := by simp only [List.length_cons]; omega
          rw [if_neg h2, if_neg h3, if_neg h1]

theorem Memory.length_bytes (m : Memory) (a n : Nat) : (m.bytes a n).length = n := by
  induction n generalizing a with
  | zero => rfl
  | succ n ih => simp [Memory.bytes, ih]

/-- One byte of a run that is read. -/
theorem Memory.getD_bytes (m : Memory) (a n i : Nat) (h : i < n) : (m.bytes a n).getD i 0 = m.byte (a + i) := by
  induction n generalizing a i with
  | zero => omega
  | succ n ih =>
      cases i with
      | zero => simp [Memory.bytes]
      | succ i =>
          simp only [Memory.bytes, List.getD_cons_succ]
          rw [ih (a + 1) i (by omega)]
          congr 1; omega

/-- A run that has been written reads back. -/
theorem Memory.bytes_setBytes_self {m : Memory} (h : Memory.wf m = true) (a : Nat) (data : List Byte) :
    (m.setBytes a data).bytes a data.length = data := by
  apply List.ext_getElem
  · simp [Memory.length_bytes]
  · intro i h1 h2
    have e := Memory.getD_bytes (m.setBytes a data) a data.length i h2
    rw [Memory.byte_setBytes h, if_pos (by omega)] at e
    rw [List.getD_eq_getElem _ _ h1] at e
    rw [e, Nat.add_sub_cancel_left, List.getD_eq_getElem _ _ h2]

/-! ### The failed-byte list -/

theorem rising_cons {a : Nat} {l : List Nat} : rising (a :: l) = true ↔ (∀ b ∈ l.head?, a < b) ∧ rising l = true := by
  cases l <;> simp [rising]

theorem mem_failByte {l : List Nat} {x y : Nat} : y ∈ failByte l x ↔ y = x ∨ y ∈ l := by
  induction l with
  | nil => simp [failByte]
  | cons a l ih =>
      unfold failByte
      split
      · simp
      · split
        · rename_i h; subst h; simp
        · simp [ih]; tauto

theorem head_failByte {l : List Nat} {x b : Nat} (h : b ∈ (failByte l x).head?) : b = x ∨ b ∈ l.head? := by
  cases l with
  | nil => simp [failByte] at h; exact Or.inl h.symm
  | cons a l =>
      unfold failByte at h
      split at h
      · simp at h; exact Or.inl h.symm
      · split at h <;> simp at h <;> simp [h]

/-- A disturbance keeps the failed-byte list rising. -/
theorem rising_failByte {l : List Nat} (h : rising l = true) (x : Nat) : rising (failByte l x) = true := by
  induction l with
  | nil => rfl
  | cons a l ih =>
      obtain ⟨h1, h2⟩ := rising_cons.1 h
      unfold failByte
      split
      · exact rising_cons.2 ⟨by simpa using ‹x < a›, h⟩
      · split
        · exact h
        · refine rising_cons.2 ⟨fun b hb => ?_, ih h2⟩
          rcases head_failByte hb with rfl | hb
          · omega
          · exact h1 b hb

theorem rising_iff_pairwise {l : List Nat} : rising l = true ↔ l.Pairwise (· < ·) := by
  induction l with
  | nil => simp [rising]
  | cons a l ih =>
      rw [rising_cons, ih, List.pairwise_cons]
      constructor
      · rintro ⟨h1, h2⟩
        refine ⟨fun b hb => ?_, h2⟩
        cases l with
        | nil => simp at hb
        | cons c l =>
            have hc : a < c := h1 c (by simp)
            rcases List.mem_cons.1 hb with rfl | hb
            · exact hc
            · exact lt_trans hc ((List.pairwise_cons.1 h2).1 b hb)
      · rintro ⟨h1, h2⟩
        exact ⟨fun b hb => h1 b (List.mem_of_mem_head? hb), h2⟩

/-- A write keeps the failed-byte list rising. -/
theorem rising_renewBytes {l : List Nat} (h : rising l = true) (a n : Nat) : rising (renewBytes l a n) = true :=
  rising_iff_pairwise.2 ((rising_iff_pairwise.1 h).filter _)

/-- The failed bytes after a write: those outside the run. -/
theorem mem_renewBytes {l : List Nat} {a n y : Nat} : y ∈ renewBytes l a n ↔ y ∈ l ∧ ¬(a ≤ y ∧ y < a + n) := by
  simp only [renewBytes, List.mem_filter, Bool.or_eq_true, decide_eq_true_eq]
  constructor <;> rintro ⟨h1, h2⟩ <;> exact ⟨h1, by omega⟩

/-- A read meets no failed byte exactly when none of its run is listed. -/
theorem firstFailed_eq_none {l : List Nat} {a n : Nat} : firstFailed l a n = none ↔ ∀ y ∈ l, ¬(a ≤ y ∧ y < a + n) := by
  simp [firstFailed, List.find?_eq_none]

end Sys2Proof.Machine
end

