-- ==== Sys2Proof/Laws/State.lean ====
section
/-! SUPPORT. What each update of the state leaves as it was, field by field, and what the changed part reads as: the lemmas that spare a proof every unfolding of a record update. -/

namespace Sys2Proof.Machine

variable (s : State)

/-! ### modPort -/

@[simp] theorem modPort_power (p : Port) (f : PortRec → PortRec) : (s.modPort p f).power = s.power := rfl
@[simp] theorem modPort_deviceReset (p : Port) (f : PortRec → PortRec) : (s.modPort p f).deviceReset = s.deviceReset := rfl
@[simp] theorem modPort_cache (p : Port) (f : PortRec → PortRec) : (s.modPort p f).cache = s.cache := rfl
@[simp] theorem modPort_walker (p : Port) (f : PortRec → PortRec) : (s.modPort p f).walker = s.walker := rfl
@[simp] theorem modPort_windows (p : Port) (f : PortRec → PortRec) : (s.modPort p f).windows = s.windows := rfl
@[simp] theorem modPort_near (p : Port) (f : PortRec → PortRec) : (s.modPort p f).near = s.near := rfl
@[simp] theorem modPort_pool (p : Port) (f : PortRec → PortRec) : (s.modPort p f).pool = s.pool := rfl
@[simp] theorem modPort_nearArbiter (p : Port) (f : PortRec → PortRec) : (s.modPort p f).nearArbiter = s.nearArbiter := rfl
@[simp] theorem modPort_poolArbiter (p : Port) (f : PortRec → PortRec) : (s.modPort p f).poolArbiter = s.poolArbiter := rfl
@[simp] theorem modPort_locks (p : Port) (f : PortRec → PortRec) : (s.modPort p f).locks = s.locks := rfl
@[simp] theorem modPort_anchors (p : Port) (f : PortRec → PortRec) : (s.modPort p f).anchors = s.anchors := rfl
@[simp] theorem modPort_fence (p : Port) (f : PortRec → PortRec) : (s.modPort p f).fence = s.fence := rfl
@[simp] theorem modPort_latches (p : Port) (f : PortRec → PortRec) : (s.modPort p f).latches = s.latches := rfl
@[simp] theorem modPort_divide (p : Port) (f : PortRec → PortRec) : (s.modPort p f).divide = s.divide := rfl
@[simp] theorem modPort_prescaler (p : Port) (f : PortRec → PortRec) : (s.modPort p f).prescaler = s.prescaler := rfl
@[simp] theorem modPort_cacheHits (p : Port) (f : PortRec → PortRec) : (s.modPort p f).cacheHits = s.cacheHits := rfl
@[simp] theorem modPort_cacheMisses (p : Port) (f : PortRec → PortRec) : (s.modPort p f).cacheMisses = s.cacheMisses := rfl
@[simp] theorem modPort_walksStarted (p : Port) (f : PortRec → PortRec) : (s.modPort p f).walksStarted = s.walksStarted := rfl
@[simp] theorem modPort_staleWalks (p : Port) (f : PortRec → PortRec) : (s.modPort p f).staleWalks = s.staleWalks := rfl
@[simp] theorem modPort_leaseExpiries (p : Port) (f : PortRec → PortRec) : (s.modPort p f).leaseExpiries = s.leaseExpiries := rfl
@[simp] theorem modPort_pending (p : Port) (f : PortRec → PortRec) : (s.modPort p f).pending = s.pending := rfl
@[simp] theorem modPort_freeCount (p : Port) (f : PortRec → PortRec) : (s.modPort p f).freeCount = s.freeCount := rfl

/-! ### mapPorts -/

@[simp] theorem mapPorts_power (f : Port → PortRec → PortRec) : (s.mapPorts f).power = s.power := rfl
@[simp] theorem mapPorts_deviceReset (f : Port → PortRec → PortRec) : (s.mapPorts f).deviceReset = s.deviceReset := rfl
@[simp] theorem mapPorts_cache (f : Port → PortRec → PortRec) : (s.mapPorts f).cache = s.cache := rfl
@[simp] theorem mapPorts_walker (f : Port → PortRec → PortRec) : (s.mapPorts f).walker = s.walker := rfl
@[simp] theorem mapPorts_windows (f : Port → PortRec → PortRec) : (s.mapPorts f).windows = s.windows := rfl
@[simp] theorem mapPorts_near (f : Port → PortRec → PortRec) : (s.mapPorts f).near = s.near := rfl
@[simp] theorem mapPorts_pool (f : Port → PortRec → PortRec) : (s.mapPorts f).pool = s.pool := rfl
@[simp] theorem mapPorts_nearArbiter (f : Port → PortRec → PortRec) : (s.mapPorts f).nearArbiter = s.nearArbiter := rfl
@[simp] theorem mapPorts_poolArbiter (f : Port → PortRec → PortRec) : (s.mapPorts f).poolArbiter = s.poolArbiter := rfl
@[simp] theorem mapPorts_locks (f : Port → PortRec → PortRec) : (s.mapPorts f).locks = s.locks := rfl
@[simp] theorem mapPorts_anchors (f : Port → PortRec → PortRec) : (s.mapPorts f).anchors = s.anchors := rfl
@[simp] theorem mapPorts_fence (f : Port → PortRec → PortRec) : (s.mapPorts f).fence = s.fence := rfl
@[simp] theorem mapPorts_latches (f : Port → PortRec → PortRec) : (s.mapPorts f).latches = s.latches := rfl
@[simp] theorem mapPorts_divide (f : Port → PortRec → PortRec) : (s.mapPorts f).divide = s.divide := rfl
@[simp] theorem mapPorts_prescaler (f : Port → PortRec → PortRec) : (s.mapPorts f).prescaler = s.prescaler := rfl
@[simp] theorem mapPorts_cacheHits (f : Port → PortRec → PortRec) : (s.mapPorts f).cacheHits = s.cacheHits := rfl
@[simp] theorem mapPorts_cacheMisses (f : Port → PortRec → PortRec) : (s.mapPorts f).cacheMisses = s.cacheMisses := rfl
@[simp] theorem mapPorts_walksStarted (f : Port → PortRec → PortRec) : (s.mapPorts f).walksStarted = s.walksStarted := rfl
@[simp] theorem mapPorts_staleWalks (f : Port → PortRec → PortRec) : (s.mapPorts f).staleWalks = s.staleWalks := rfl
@[simp] theorem mapPorts_leaseExpiries (f : Port → PortRec → PortRec) : (s.mapPorts f).leaseExpiries = s.leaseExpiries := rfl
@[simp] theorem mapPorts_pending (f : Port → PortRec → PortRec) : (s.mapPorts f).pending = s.pending := rfl
@[simp] theorem mapPorts_freeCount (f : Port → PortRec → PortRec) : (s.mapPorts f).freeCount = s.freeCount := rfl

/-! ### modEngine -/

@[simp] theorem modEngine_power (p : Port) (f : Engine → Engine) : (s.modEngine p f).power = s.power := rfl
@[simp] theorem modEngine_deviceReset (p : Port) (f : Engine → Engine) : (s.modEngine p f).deviceReset = s.deviceReset := rfl
@[simp] theorem modEngine_cache (p : Port) (f : Engine → Engine) : (s.modEngine p f).cache = s.cache := rfl
@[simp] theorem modEngine_walker (p : Port) (f : Engine → Engine) : (s.modEngine p f).walker = s.walker := rfl
@[simp] theorem modEngine_windows (p : Port) (f : Engine → Engine) : (s.modEngine p f).windows = s.windows := rfl
@[simp] theorem modEngine_near (p : Port) (f : Engine → Engine) : (s.modEngine p f).near = s.near := rfl
@[simp] theorem modEngine_pool (p : Port) (f : Engine → Engine) : (s.modEngine p f).pool = s.pool := rfl
@[simp] theorem modEngine_nearArbiter (p : Port) (f : Engine → Engine) : (s.modEngine p f).nearArbiter = s.nearArbiter := rfl
@[simp] theorem modEngine_poolArbiter (p : Port) (f : Engine → Engine) : (s.modEngine p f).poolArbiter = s.poolArbiter := rfl
@[simp] theorem modEngine_locks (p : Port) (f : Engine → Engine) : (s.modEngine p f).locks = s.locks := rfl
@[simp] theorem modEngine_anchors (p : Port) (f : Engine → Engine) : (s.modEngine p f).anchors = s.anchors := rfl
@[simp] theorem modEngine_fence (p : Port) (f : Engine → Engine) : (s.modEngine p f).fence = s.fence := rfl
@[simp] theorem modEngine_latches (p : Port) (f : Engine → Engine) : (s.modEngine p f).latches = s.latches := rfl
@[simp] theorem modEngine_divide (p : Port) (f : Engine → Engine) : (s.modEngine p f).divide = s.divide := rfl
@[simp] theorem modEngine_prescaler (p : Port) (f : Engine → Engine) : (s.modEngine p f).prescaler = s.prescaler := rfl
@[simp] theorem modEngine_cacheHits (p : Port) (f : Engine → Engine) : (s.modEngine p f).cacheHits = s.cacheHits := rfl
@[simp] theorem modEngine_cacheMisses (p : Port) (f : Engine → Engine) : (s.modEngine p f).cacheMisses = s.cacheMisses := rfl
@[simp] theorem modEngine_walksStarted (p : Port) (f : Engine → Engine) : (s.modEngine p f).walksStarted = s.walksStarted := rfl
@[simp] theorem modEngine_staleWalks (p : Port) (f : Engine → Engine) : (s.modEngine p f).staleWalks = s.staleWalks := rfl
@[simp] theorem modEngine_leaseExpiries (p : Port) (f : Engine → Engine) : (s.modEngine p f).leaseExpiries = s.leaseExpiries := rfl
@[simp] theorem modEngine_pending (p : Port) (f : Engine → Engine) : (s.modEngine p f).pending = s.pending := rfl
@[simp] theorem modEngine_freeCount (p : Port) (f : Engine → Engine) : (s.modEngine p f).freeCount = s.freeCount := rfl

/-! ### addRecord -/

@[simp] theorem addRecord_power (p : Port) (x : Record) : (s.addRecord p x).power = s.power := rfl
@[simp] theorem addRecord_deviceReset (p : Port) (x : Record) : (s.addRecord p x).deviceReset = s.deviceReset := rfl
@[simp] theorem addRecord_cache (p : Port) (x : Record) : (s.addRecord p x).cache = s.cache := rfl
@[simp] theorem addRecord_walker (p : Port) (x : Record) : (s.addRecord p x).walker = s.walker := rfl
@[simp] theorem addRecord_windows (p : Port) (x : Record) : (s.addRecord p x).windows = s.windows := rfl
@[simp] theorem addRecord_near (p : Port) (x : Record) : (s.addRecord p x).near = s.near := rfl
@[simp] theorem addRecord_pool (p : Port) (x : Record) : (s.addRecord p x).pool = s.pool := rfl
@[simp] theorem addRecord_nearArbiter (p : Port) (x : Record) : (s.addRecord p x).nearArbiter = s.nearArbiter := rfl
@[simp] theorem addRecord_poolArbiter (p : Port) (x : Record) : (s.addRecord p x).poolArbiter = s.poolArbiter := rfl
@[simp] theorem addRecord_locks (p : Port) (x : Record) : (s.addRecord p x).locks = s.locks := rfl
@[simp] theorem addRecord_anchors (p : Port) (x : Record) : (s.addRecord p x).anchors = s.anchors := rfl
@[simp] theorem addRecord_fence (p : Port) (x : Record) : (s.addRecord p x).fence = s.fence := rfl
@[simp] theorem addRecord_latches (p : Port) (x : Record) : (s.addRecord p x).latches = s.latches := rfl
@[simp] theorem addRecord_divide (p : Port) (x : Record) : (s.addRecord p x).divide = s.divide := rfl
@[simp] theorem addRecord_prescaler (p : Port) (x : Record) : (s.addRecord p x).prescaler = s.prescaler := rfl
@[simp] theorem addRecord_cacheHits (p : Port) (x : Record) : (s.addRecord p x).cacheHits = s.cacheHits := rfl
@[simp] theorem addRecord_cacheMisses (p : Port) (x : Record) : (s.addRecord p x).cacheMisses = s.cacheMisses := rfl
@[simp] theorem addRecord_walksStarted (p : Port) (x : Record) : (s.addRecord p x).walksStarted = s.walksStarted := rfl
@[simp] theorem addRecord_staleWalks (p : Port) (x : Record) : (s.addRecord p x).staleWalks = s.staleWalks := rfl
@[simp] theorem addRecord_leaseExpiries (p : Port) (x : Record) : (s.addRecord p x).leaseExpiries = s.leaseExpiries := rfl
@[simp] theorem addRecord_pending (p : Port) (x : Record) : (s.addRecord p x).pending = s.pending := rfl
@[simp] theorem addRecord_freeCount (p : Port) (x : Record) : (s.addRecord p x).freeCount = s.freeCount := rfl

/-! ### modSlot -/

@[simp] theorem modSlot_power (k : SlotId) (f : WalkSlot → WalkSlot) : (s.modSlot k f).power = s.power := rfl
@[simp] theorem modSlot_deviceReset (k : SlotId) (f : WalkSlot → WalkSlot) : (s.modSlot k f).deviceReset = s.deviceReset := rfl
@[simp] theorem modSlot_ports (k : SlotId) (f : WalkSlot → WalkSlot) : (s.modSlot k f).ports = s.ports := rfl
@[simp] theorem modSlot_cache (k : SlotId) (f : WalkSlot → WalkSlot) : (s.modSlot k f).cache = s.cache := rfl
@[simp] theorem modSlot_windows (k : SlotId) (f : WalkSlot → WalkSlot) : (s.modSlot k f).windows = s.windows := rfl
@[simp] theorem modSlot_near (k : SlotId) (f : WalkSlot → WalkSlot) : (s.modSlot k f).near = s.near := rfl
@[simp] theorem modSlot_pool (k : SlotId) (f : WalkSlot → WalkSlot) : (s.modSlot k f).pool = s.pool := rfl
@[simp] theorem modSlot_nearArbiter (k : SlotId) (f : WalkSlot → WalkSlot) : (s.modSlot k f).nearArbiter = s.nearArbiter := rfl
@[simp] theorem modSlot_poolArbiter (k : SlotId) (f : WalkSlot → WalkSlot) : (s.modSlot k f).poolArbiter = s.poolArbiter := rfl
@[simp] theorem modSlot_locks (k : SlotId) (f : WalkSlot → WalkSlot) : (s.modSlot k f).locks = s.locks := rfl
@[simp] theorem modSlot_anchors (k : SlotId) (f : WalkSlot → WalkSlot) : (s.modSlot k f).anchors = s.anchors := rfl
@[simp] theorem modSlot_fence (k : SlotId) (f : WalkSlot → WalkSlot) : (s.modSlot k f).fence = s.fence := rfl
@[simp] theorem modSlot_latches (k : SlotId) (f : WalkSlot → WalkSlot) : (s.modSlot k f).latches = s.latches := rfl
@[simp] theorem modSlot_divide (k : SlotId) (f : WalkSlot → WalkSlot) : (s.modSlot k f).divide = s.divide := rfl
@[simp] theorem modSlot_prescaler (k : SlotId) (f : WalkSlot → WalkSlot) : (s.modSlot k f).prescaler = s.prescaler := rfl
@[simp] theorem modSlot_cacheHits (k : SlotId) (f : WalkSlot → WalkSlot) : (s.modSlot k f).cacheHits = s.cacheHits := rfl
@[simp] theorem modSlot_cacheMisses (k : SlotId) (f : WalkSlot → WalkSlot) : (s.modSlot k f).cacheMisses = s.cacheMisses := rfl
@[simp] theorem modSlot_walksStarted (k : SlotId) (f : WalkSlot → WalkSlot) : (s.modSlot k f).walksStarted = s.walksStarted := rfl
@[simp] theorem modSlot_staleWalks (k : SlotId) (f : WalkSlot → WalkSlot) : (s.modSlot k f).staleWalks = s.staleWalks := rfl
@[simp] theorem modSlot_leaseExpiries (k : SlotId) (f : WalkSlot → WalkSlot) : (s.modSlot k f).leaseExpiries = s.leaseExpiries := rfl
@[simp] theorem modSlot_pending (k : SlotId) (f : WalkSlot → WalkSlot) : (s.modSlot k f).pending = s.pending := rfl
@[simp] theorem modSlot_freeCount (k : SlotId) (f : WalkSlot → WalkSlot) : (s.modSlot k f).freeCount = s.freeCount := rfl

/-! ### mapSlots -/

@[simp] theorem mapSlots_power (f : WalkSlot → WalkSlot) : (s.mapSlots f).power = s.power := rfl
@[simp] theorem mapSlots_deviceReset (f : WalkSlot → WalkSlot) : (s.mapSlots f).deviceReset = s.deviceReset := rfl
@[simp] theorem mapSlots_ports (f : WalkSlot → WalkSlot) : (s.mapSlots f).ports = s.ports := rfl
@[simp] theorem mapSlots_cache (f : WalkSlot → WalkSlot) : (s.mapSlots f).cache = s.cache := rfl
@[simp] theorem mapSlots_windows (f : WalkSlot → WalkSlot) : (s.mapSlots f).windows = s.windows := rfl
@[simp] theorem mapSlots_near (f : WalkSlot → WalkSlot) : (s.mapSlots f).near = s.near := rfl
@[simp] theorem mapSlots_pool (f : WalkSlot → WalkSlot) : (s.mapSlots f).pool = s.pool := rfl
@[simp] theorem mapSlots_nearArbiter (f : WalkSlot → WalkSlot) : (s.mapSlots f).nearArbiter = s.nearArbiter := rfl
@[simp] theorem mapSlots_poolArbiter (f : WalkSlot → WalkSlot) : (s.mapSlots f).poolArbiter = s.poolArbiter := rfl
@[simp] theorem mapSlots_locks (f : WalkSlot → WalkSlot) : (s.mapSlots f).locks = s.locks := rfl
@[simp] theorem mapSlots_anchors (f : WalkSlot → WalkSlot) : (s.mapSlots f).anchors = s.anchors := rfl
@[simp] theorem mapSlots_fence (f : WalkSlot → WalkSlot) : (s.mapSlots f).fence = s.fence := rfl
@[simp] theorem mapSlots_latches (f : WalkSlot → WalkSlot) : (s.mapSlots f).latches = s.latches := rfl
@[simp] theorem mapSlots_divide (f : WalkSlot → WalkSlot) : (s.mapSlots f).divide = s.divide := rfl
@[simp] theorem mapSlots_prescaler (f : WalkSlot → WalkSlot) : (s.mapSlots f).prescaler = s.prescaler := rfl
@[simp] theorem mapSlots_cacheHits (f : WalkSlot → WalkSlot) : (s.mapSlots f).cacheHits = s.cacheHits := rfl
@[simp] theorem mapSlots_cacheMisses (f : WalkSlot → WalkSlot) : (s.mapSlots f).cacheMisses = s.cacheMisses := rfl
@[simp] theorem mapSlots_walksStarted (f : WalkSlot → WalkSlot) : (s.mapSlots f).walksStarted = s.walksStarted := rfl
@[simp] theorem mapSlots_staleWalks (f : WalkSlot → WalkSlot) : (s.mapSlots f).staleWalks = s.staleWalks := rfl
@[simp] theorem mapSlots_leaseExpiries (f : WalkSlot → WalkSlot) : (s.mapSlots f).leaseExpiries = s.leaseExpiries := rfl
@[simp] theorem mapSlots_pending (f : WalkSlot → WalkSlot) : (s.mapSlots f).pending = s.pending := rfl
@[simp] theorem mapSlots_freeCount (f : WalkSlot → WalkSlot) : (s.mapSlots f).freeCount = s.freeCount := rfl

/-! ### setWaitList -/

@[simp] theorem setWaitList_power (l : List WaitEntry) : (s.setWaitList l).power = s.power := rfl
@[simp] theorem setWaitList_deviceReset (l : List WaitEntry) : (s.setWaitList l).deviceReset = s.deviceReset := rfl
@[simp] theorem setWaitList_ports (l : List WaitEntry) : (s.setWaitList l).ports = s.ports := rfl
@[simp] theorem setWaitList_cache (l : List WaitEntry) : (s.setWaitList l).cache = s.cache := rfl
@[simp] theorem setWaitList_windows (l : List WaitEntry) : (s.setWaitList l).windows = s.windows := rfl
@[simp] theorem setWaitList_near (l : List WaitEntry) : (s.setWaitList l).near = s.near := rfl
@[simp] theorem setWaitList_pool (l : List WaitEntry) : (s.setWaitList l).pool = s.pool := rfl
@[simp] theorem setWaitList_nearArbiter (l : List WaitEntry) : (s.setWaitList l).nearArbiter = s.nearArbiter := rfl
@[simp] theorem setWaitList_poolArbiter (l : List WaitEntry) : (s.setWaitList l).poolArbiter = s.poolArbiter := rfl
@[simp] theorem setWaitList_locks (l : List WaitEntry) : (s.setWaitList l).locks = s.locks := rfl
@[simp] theorem setWaitList_anchors (l : List WaitEntry) : (s.setWaitList l).anchors = s.anchors := rfl
@[simp] theorem setWaitList_fence (l : List WaitEntry) : (s.setWaitList l).fence = s.fence := rfl
@[simp] theorem setWaitList_latches (l : List WaitEntry) : (s.setWaitList l).latches = s.latches := rfl
@[simp] theorem setWaitList_divide (l : List WaitEntry) : (s.setWaitList l).divide = s.divide := rfl
@[simp] theorem setWaitList_prescaler (l : List WaitEntry) : (s.setWaitList l).prescaler = s.prescaler := rfl
@[simp] theorem setWaitList_cacheHits (l : List WaitEntry) : (s.setWaitList l).cacheHits = s.cacheHits := rfl
@[simp] theorem setWaitList_cacheMisses (l : List WaitEntry) : (s.setWaitList l).cacheMisses = s.cacheMisses := rfl
@[simp] theorem setWaitList_walksStarted (l : List WaitEntry) : (s.setWaitList l).walksStarted = s.walksStarted := rfl
@[simp] theorem setWaitList_staleWalks (l : List WaitEntry) : (s.setWaitList l).staleWalks = s.staleWalks := rfl
@[simp] theorem setWaitList_leaseExpiries (l : List WaitEntry) : (s.setWaitList l).leaseExpiries = s.leaseExpiries := rfl
@[simp] theorem setWaitList_pending (l : List WaitEntry) : (s.setWaitList l).pending = s.pending := rfl
@[simp] theorem setWaitList_freeCount (l : List WaitEntry) : (s.setWaitList l).freeCount = s.freeCount := rfl

/-! ### setLock -/

@[simp] theorem setLock_power (n : LockId) (l : Lock) : (s.setLock n l).power = s.power := rfl
@[simp] theorem setLock_deviceReset (n : LockId) (l : Lock) : (s.setLock n l).deviceReset = s.deviceReset := rfl
@[simp] theorem setLock_ports (n : LockId) (l : Lock) : (s.setLock n l).ports = s.ports := rfl
@[simp] theorem setLock_cache (n : LockId) (l : Lock) : (s.setLock n l).cache = s.cache := rfl
@[simp] theorem setLock_walker (n : LockId) (l : Lock) : (s.setLock n l).walker = s.walker := rfl
@[simp] theorem setLock_windows (n : LockId) (l : Lock) : (s.setLock n l).windows = s.windows := rfl
@[simp] theorem setLock_near (n : LockId) (l : Lock) : (s.setLock n l).near = s.near := rfl
@[simp] theorem setLock_pool (n : LockId) (l : Lock) : (s.setLock n l).pool = s.pool := rfl
@[simp] theorem setLock_nearArbiter (n : LockId) (l : Lock) : (s.setLock n l).nearArbiter = s.nearArbiter := rfl
@[simp] theorem setLock_poolArbiter (n : LockId) (l : Lock) : (s.setLock n l).poolArbiter = s.poolArbiter := rfl
@[simp] theorem setLock_anchors (n : LockId) (l : Lock) : (s.setLock n l).anchors = s.anchors := rfl
@[simp] theorem setLock_fence (n : LockId) (l : Lock) : (s.setLock n l).fence = s.fence := rfl
@[simp] theorem setLock_latches (n : LockId) (l : Lock) : (s.setLock n l).latches = s.latches := rfl
@[simp] theorem setLock_divide (n : LockId) (l : Lock) : (s.setLock n l).divide = s.divide := rfl
@[simp] theorem setLock_prescaler (n : LockId) (l : Lock) : (s.setLock n l).prescaler = s.prescaler := rfl
@[simp] theorem setLock_cacheHits (n : LockId) (l : Lock) : (s.setLock n l).cacheHits = s.cacheHits := rfl
@[simp] theorem setLock_cacheMisses (n : LockId) (l : Lock) : (s.setLock n l).cacheMisses = s.cacheMisses := rfl
@[simp] theorem setLock_walksStarted (n : LockId) (l : Lock) : (s.setLock n l).walksStarted = s.walksStarted := rfl
@[simp] theorem setLock_staleWalks (n : LockId) (l : Lock) : (s.setLock n l).staleWalks = s.staleWalks := rfl
@[simp] theorem setLock_leaseExpiries (n : LockId) (l : Lock) : (s.setLock n l).leaseExpiries = s.leaseExpiries := rfl
@[simp] theorem setLock_pending (n : LockId) (l : Lock) : (s.setLock n l).pending = s.pending := rfl
@[simp] theorem setLock_freeCount (n : LockId) (l : Lock) : (s.setLock n l).freeCount = s.freeCount := rfl

/-! ### setLatch -/

@[simp] theorem setLatch_power (c : AlertCause) (l : Latch) : (s.setLatch c l).power = s.power := rfl
@[simp] theorem setLatch_deviceReset (c : AlertCause) (l : Latch) : (s.setLatch c l).deviceReset = s.deviceReset := rfl
@[simp] theorem setLatch_ports (c : AlertCause) (l : Latch) : (s.setLatch c l).ports = s.ports := rfl
@[simp] theorem setLatch_cache (c : AlertCause) (l : Latch) : (s.setLatch c l).cache = s.cache := rfl
@[simp] theorem setLatch_walker (c : AlertCause) (l : Latch) : (s.setLatch c l).walker = s.walker := rfl
@[simp] theorem setLatch_windows (c : AlertCause) (l : Latch) : (s.setLatch c l).windows = s.windows := rfl
@[simp] theorem setLatch_near (c : AlertCause) (l : Latch) : (s.setLatch c l).near = s.near := rfl
@[simp] theorem setLatch_pool (c : AlertCause) (l : Latch) : (s.setLatch c l).pool = s.pool := rfl
@[simp] theorem setLatch_nearArbiter (c : AlertCause) (l : Latch) : (s.setLatch c l).nearArbiter = s.nearArbiter := rfl
@[simp] theorem setLatch_poolArbiter (c : AlertCause) (l : Latch) : (s.setLatch c l).poolArbiter = s.poolArbiter := rfl
@[simp] theorem setLatch_locks (c : AlertCause) (l : Latch) : (s.setLatch c l).locks = s.locks := rfl
@[simp] theorem setLatch_anchors (c : AlertCause) (l : Latch) : (s.setLatch c l).anchors = s.anchors := rfl
@[simp] theorem setLatch_fence (c : AlertCause) (l : Latch) : (s.setLatch c l).fence = s.fence := rfl
@[simp] theorem setLatch_divide (c : AlertCause) (l : Latch) : (s.setLatch c l).divide = s.divide := rfl
@[simp] theorem setLatch_prescaler (c : AlertCause) (l : Latch) : (s.setLatch c l).prescaler = s.prescaler := rfl
@[simp] theorem setLatch_cacheHits (c : AlertCause) (l : Latch) : (s.setLatch c l).cacheHits = s.cacheHits := rfl
@[simp] theorem setLatch_cacheMisses (c : AlertCause) (l : Latch) : (s.setLatch c l).cacheMisses = s.cacheMisses := rfl
@[simp] theorem setLatch_walksStarted (c : AlertCause) (l : Latch) : (s.setLatch c l).walksStarted = s.walksStarted := rfl
@[simp] theorem setLatch_staleWalks (c : AlertCause) (l : Latch) : (s.setLatch c l).staleWalks = s.staleWalks := rfl
@[simp] theorem setLatch_leaseExpiries (c : AlertCause) (l : Latch) : (s.setLatch c l).leaseExpiries = s.leaseExpiries := rfl
@[simp] theorem setLatch_pending (c : AlertCause) (l : Latch) : (s.setLatch c l).pending = s.pending := rfl
@[simp] theorem setLatch_freeCount (c : AlertCause) (l : Latch) : (s.setLatch c l).freeCount = s.freeCount := rfl

/-! ### modSet -/

@[simp] theorem modSet_power (i : Fin 128) (f : CacheSet → CacheSet) : (s.modSet i f).power = s.power := rfl
@[simp] theorem modSet_deviceReset (i : Fin 128) (f : CacheSet → CacheSet) : (s.modSet i f).deviceReset = s.deviceReset := rfl
@[simp] theorem modSet_ports (i : Fin 128) (f : CacheSet → CacheSet) : (s.modSet i f).ports = s.ports := rfl
@[simp] theorem modSet_walker (i : Fin 128) (f : CacheSet → CacheSet) : (s.modSet i f).walker = s.walker := rfl
@[simp] theorem modSet_windows (i : Fin 128) (f : CacheSet → CacheSet) : (s.modSet i f).windows = s.windows := rfl
@[simp] theorem modSet_near (i : Fin 128) (f : CacheSet → CacheSet) : (s.modSet i f).near = s.near := rfl
@[simp] theorem modSet_pool (i : Fin 128) (f : CacheSet → CacheSet) : (s.modSet i f).pool = s.pool := rfl
@[simp] theorem modSet_nearArbiter (i : Fin 128) (f : CacheSet → CacheSet) : (s.modSet i f).nearArbiter = s.nearArbiter := rfl
@[simp] theorem modSet_poolArbiter (i : Fin 128) (f : CacheSet → CacheSet) : (s.modSet i f).poolArbiter = s.poolArbiter := rfl
@[simp] theorem modSet_locks (i : Fin 128) (f : CacheSet → CacheSet) : (s.modSet i f).locks = s.locks := rfl
@[simp] theorem modSet_anchors (i : Fin 128) (f : CacheSet → CacheSet) : (s.modSet i f).anchors = s.anchors := rfl
@[simp] theorem modSet_fence (i : Fin 128) (f : CacheSet → CacheSet) : (s.modSet i f).fence = s.fence := rfl
@[simp] theorem modSet_latches (i : Fin 128) (f : CacheSet → CacheSet) : (s.modSet i f).latches = s.latches := rfl
@[simp] theorem modSet_divide (i : Fin 128) (f : CacheSet → CacheSet) : (s.modSet i f).divide = s.divide := rfl
@[simp] theorem modSet_prescaler (i : Fin 128) (f : CacheSet → CacheSet) : (s.modSet i f).prescaler = s.prescaler := rfl
@[simp] theorem modSet_cacheHits (i : Fin 128) (f : CacheSet → CacheSet) : (s.modSet i f).cacheHits = s.cacheHits := rfl
@[simp] theorem modSet_cacheMisses (i : Fin 128) (f : CacheSet → CacheSet) : (s.modSet i f).cacheMisses = s.cacheMisses := rfl
@[simp] theorem modSet_walksStarted (i : Fin 128) (f : CacheSet → CacheSet) : (s.modSet i f).walksStarted = s.walksStarted := rfl
@[simp] theorem modSet_staleWalks (i : Fin 128) (f : CacheSet → CacheSet) : (s.modSet i f).staleWalks = s.staleWalks := rfl
@[simp] theorem modSet_leaseExpiries (i : Fin 128) (f : CacheSet → CacheSet) : (s.modSet i f).leaseExpiries = s.leaseExpiries := rfl
@[simp] theorem modSet_pending (i : Fin 128) (f : CacheSet → CacheSet) : (s.modSet i f).pending = s.pending := rfl
@[simp] theorem modSet_freeCount (i : Fin 128) (f : CacheSet → CacheSet) : (s.modSet i f).freeCount = s.freeCount := rfl

/-! ### setArbiter -/

@[simp] theorem setArbiter_power (t : Target) (a : Arbiter) : (s.setArbiter t a).power = s.power := by cases t <;> rfl
@[simp] theorem setArbiter_deviceReset (t : Target) (a : Arbiter) : (s.setArbiter t a).deviceReset = s.deviceReset := by cases t <;> rfl
@[simp] theorem setArbiter_ports (t : Target) (a : Arbiter) : (s.setArbiter t a).ports = s.ports := by cases t <;> rfl
@[simp] theorem setArbiter_cache (t : Target) (a : Arbiter) : (s.setArbiter t a).cache = s.cache := by cases t <;> rfl
@[simp] theorem setArbiter_walker (t : Target) (a : Arbiter) : (s.setArbiter t a).walker = s.walker := by cases t <;> rfl
@[simp] theorem setArbiter_windows (t : Target) (a : Arbiter) : (s.setArbiter t a).windows = s.windows := by cases t <;> rfl
@[simp] theorem setArbiter_near (t : Target) (a : Arbiter) : (s.setArbiter t a).near = s.near := by cases t <;> rfl
@[simp] theorem setArbiter_pool (t : Target) (a : Arbiter) : (s.setArbiter t a).pool = s.pool := by cases t <;> rfl
@[simp] theorem setArbiter_locks (t : Target) (a : Arbiter) : (s.setArbiter t a).locks = s.locks := by cases t <;> rfl
@[simp] theorem setArbiter_anchors (t : Target) (a : Arbiter) : (s.setArbiter t a).anchors = s.anchors := by cases t <;> rfl
@[simp] theorem setArbiter_fence (t : Target) (a : Arbiter) : (s.setArbiter t a).fence = s.fence := by cases t <;> rfl
@[simp] theorem setArbiter_latches (t : Target) (a : Arbiter) : (s.setArbiter t a).latches = s.latches := by cases t <;> rfl
@[simp] theorem setArbiter_divide (t : Target) (a : Arbiter) : (s.setArbiter t a).divide = s.divide := by cases t <;> rfl
@[simp] theorem setArbiter_prescaler (t : Target) (a : Arbiter) : (s.setArbiter t a).prescaler = s.prescaler := by cases t <;> rfl
@[simp] theorem setArbiter_cacheHits (t : Target) (a : Arbiter) : (s.setArbiter t a).cacheHits = s.cacheHits := by cases t <;> rfl
@[simp] theorem setArbiter_cacheMisses (t : Target) (a : Arbiter) : (s.setArbiter t a).cacheMisses = s.cacheMisses := by cases t <;> rfl
@[simp] theorem setArbiter_walksStarted (t : Target) (a : Arbiter) : (s.setArbiter t a).walksStarted = s.walksStarted := by cases t <;> rfl
@[simp] theorem setArbiter_staleWalks (t : Target) (a : Arbiter) : (s.setArbiter t a).staleWalks = s.staleWalks := by cases t <;> rfl
@[simp] theorem setArbiter_leaseExpiries (t : Target) (a : Arbiter) : (s.setArbiter t a).leaseExpiries = s.leaseExpiries := by cases t <;> rfl
@[simp] theorem setArbiter_pending (t : Target) (a : Arbiter) : (s.setArbiter t a).pending = s.pending := by cases t <;> rfl
@[simp] theorem setArbiter_freeCount (t : Target) (a : Arbiter) : (s.setArbiter t a).freeCount = s.freeCount := by cases t <;> rfl

/-! ### Reading a changed part -/

@[simp] theorem port_modPort_self (p : Port) (f : PortRec → PortRec) : (s.modPort p f).port p = f (s.port p) := by
  simp [State.port, State.modPort]

theorem port_modPort_of_ne {p q : Port} (h : p ≠ q) (f : PortRec → PortRec) : (s.modPort p f).port q = s.port q := by
  simp only [State.port, State.modPort]
  exact Vector.getElem_set_ne _ _ (fun e => h (Fin.ext e))

theorem port_modPort (p q : Port) (f : PortRec → PortRec) : (s.modPort p f).port q = if p = q then f (s.port q) else s.port q := by
  by_cases h : p = q
  · subst h; simp
  · simp [h, port_modPort_of_ne]

@[simp] theorem port_mapPorts (f : Port → PortRec → PortRec) (q : Port) : (s.mapPorts f).port q = f q (s.port q) := by
  fin_cases q <;> rfl

theorem port_modEngine (p q : Port) (f : Engine → Engine) :
    (s.modEngine p f).port q = if p = q then { s.port q with engine := f (s.port q).engine } else s.port q := port_modPort s p q _

theorem port_addRecord (p q : Port) (x : Record) : (s.addRecord p x).port q = if p = q then (s.port q).addRecord x else s.port q :=
  port_modPort s p q _

@[simp] theorem slot_modSlot_self (k : SlotId) (f : WalkSlot → WalkSlot) : (s.modSlot k f).slot k = f (s.slot k) := by
  simp [State.slot, State.modSlot]

theorem slot_modSlot (k i : SlotId) (f : WalkSlot → WalkSlot) : (s.modSlot k f).slot i = if k = i then f (s.slot i) else s.slot i := by
  by_cases h : k = i
  · subst h; simp
  · simp only [h, if_false, State.slot, State.modSlot]
    exact Vector.getElem_set_ne _ _ (fun e => h (Fin.ext e))

@[simp] theorem slot_mapSlots (f : WalkSlot → WalkSlot) (i : SlotId) : (s.mapSlots f).slot i = f (s.slot i) := by
  fin_cases i <;> rfl

@[simp] theorem slot_setWaitList (l : List WaitEntry) (i : SlotId) : (s.setWaitList l).slot i = s.slot i := rfl

theorem lock_setLock (n m : LockId) (l : Lock) : (s.setLock n l).lock m = if n = m then l else s.lock m := by
  by_cases h : n = m
  · subst h; simp [State.lock, State.setLock]
  · simp only [h, if_false, State.lock, State.setLock]
    exact Vector.getElem_set_ne _ _ (fun e => h (Fin.ext e))

@[simp] theorem lock_setLock_self (n : LockId) (l : Lock) : (s.setLock n l).lock n = l := by simp [lock_setLock]

theorem AlertCause.index_inj {c d : AlertCause} : c.index = d.index ↔ c = d := by cases c <;> cases d <;> decide

theorem latch_setLatch (c d : AlertCause) (l : Latch) : (s.setLatch c l).latch d = if c = d then l else s.latch d := by
  by_cases h : c = d
  · subst h; simp [State.latch, State.setLatch]
  · simp only [h, if_false, State.latch, State.setLatch]
    exact Vector.getElem_set_ne _ _ (fun e => h (AlertCause.index_inj.1 (Fin.ext e)))

theorem arbiter_setArbiter (t u : Target) (a : Arbiter) : (s.setArbiter t a).arbiter u = if t = u then a else s.arbiter u := by
  cases t <;> cases u <;> rfl

/-! ### What does not look at the changed part -/

@[simp] theorem slot_modPort (p : Port) (f : PortRec → PortRec) (j : SlotId) : (s.modPort p f).slot j = s.slot j := rfl
@[simp] theorem lock_modPort (p : Port) (f : PortRec → PortRec) (m : LockId) : (s.modPort p f).lock m = s.lock m := rfl
@[simp] theorem latch_modPort (p : Port) (f : PortRec → PortRec) (d : AlertCause) : (s.modPort p f).latch d = s.latch d := rfl
@[simp] theorem anchor_modPort (p : Port) (f : PortRec → PortRec) (space : BitVec 3) : (s.modPort p f).anchor space = s.anchor space := rfl
@[simp] theorem draining_modPort (p : Port) (f : PortRec → PortRec) : (s.modPort p f).draining = s.draining := rfl
@[simp] theorem slot_mapPorts (f : Port → PortRec → PortRec) (j : SlotId) : (s.mapPorts f).slot j = s.slot j := rfl
@[simp] theorem lock_mapPorts (f : Port → PortRec → PortRec) (m : LockId) : (s.mapPorts f).lock m = s.lock m := rfl
@[simp] theorem latch_mapPorts (f : Port → PortRec → PortRec) (d : AlertCause) : (s.mapPorts f).latch d = s.latch d := rfl
@[simp] theorem anchor_mapPorts (f : Port → PortRec → PortRec) (space : BitVec 3) : (s.mapPorts f).anchor space = s.anchor space := rfl
@[simp] theorem draining_mapPorts (f : Port → PortRec → PortRec) : (s.mapPorts f).draining = s.draining := rfl
@[simp] theorem slot_modEngine (p : Port) (f : Engine → Engine) (j : SlotId) : (s.modEngine p f).slot j = s.slot j := rfl
@[simp] theorem lock_modEngine (p : Port) (f : Engine → Engine) (m : LockId) : (s.modEngine p f).lock m = s.lock m := rfl
@[simp] theorem latch_modEngine (p : Port) (f : Engine → Engine) (d : AlertCause) : (s.modEngine p f).latch d = s.latch d := rfl
@[simp] theorem anchor_modEngine (p : Port) (f : Engine → Engine) (space : BitVec 3) : (s.modEngine p f).anchor space = s.anchor space := rfl
@[simp] theorem draining_modEngine (p : Port) (f : Engine → Engine) : (s.modEngine p f).draining = s.draining := rfl
@[simp] theorem slot_addRecord (p : Port) (x : Record) (j : SlotId) : (s.addRecord p x).slot j = s.slot j := rfl
@[simp] theorem lock_addRecord (p : Port) (x : Record) (m : LockId) : (s.addRecord p x).lock m = s.lock m := rfl
@[simp] theorem latch_addRecord (p : Port) (x : Record) (d : AlertCause) : (s.addRecord p x).latch d = s.latch d := rfl
@[simp] theorem anchor_addRecord (p : Port) (x : Record) (space : BitVec 3) : (s.addRecord p x).anchor space = s.anchor space := rfl
@[simp] theorem draining_addRecord (p : Port) (x : Record) : (s.addRecord p x).draining = s.draining := rfl
@[simp] theorem port_modSlot (k : SlotId) (f : WalkSlot → WalkSlot) (q : Port) : (s.modSlot k f).port q = s.port q := rfl
@[simp] theorem lock_modSlot (k : SlotId) (f : WalkSlot → WalkSlot) (m : LockId) : (s.modSlot k f).lock m = s.lock m := rfl
@[simp] theorem latch_modSlot (k : SlotId) (f : WalkSlot → WalkSlot) (d : AlertCause) : (s.modSlot k f).latch d = s.latch d := rfl
@[simp] theorem anchor_modSlot (k : SlotId) (f : WalkSlot → WalkSlot) (space : BitVec 3) : (s.modSlot k f).anchor space = s.anchor space := rfl
@[simp] theorem draining_modSlot (k : SlotId) (f : WalkSlot → WalkSlot) : (s.modSlot k f).draining = s.draining := rfl
@[simp] theorem port_mapSlots (f : WalkSlot → WalkSlot) (q : Port) : (s.mapSlots f).port q = s.port q := rfl
@[simp] theorem lock_mapSlots (f : WalkSlot → WalkSlot) (m : LockId) : (s.mapSlots f).lock m = s.lock m := rfl
@[simp] theorem latch_mapSlots (f : WalkSlot → WalkSlot) (d : AlertCause) : (s.mapSlots f).latch d = s.latch d := rfl
@[simp] theorem anchor_mapSlots (f : WalkSlot → WalkSlot) (space : BitVec 3) : (s.mapSlots f).anchor space = s.anchor space := rfl
@[simp] theorem draining_mapSlots (f : WalkSlot → WalkSlot) : (s.mapSlots f).draining = s.draining := rfl
@[simp] theorem port_setWaitList (l : List WaitEntry) (q : Port) : (s.setWaitList l).port q = s.port q := rfl
@[simp] theorem lock_setWaitList (l : List WaitEntry) (m : LockId) : (s.setWaitList l).lock m = s.lock m := rfl
@[simp] theorem latch_setWaitList (l : List WaitEntry) (d : AlertCause) : (s.setWaitList l).latch d = s.latch d := rfl
@[simp] theorem anchor_setWaitList (l : List WaitEntry) (space : BitVec 3) : (s.setWaitList l).anchor space = s.anchor space := rfl
@[simp] theorem draining_setWaitList (l : List WaitEntry) : (s.setWaitList l).draining = s.draining := rfl
@[simp] theorem port_setLock (n : LockId) (l : Lock) (q : Port) : (s.setLock n l).port q = s.port q := rfl
@[simp] theorem slot_setLock (n : LockId) (l : Lock) (j : SlotId) : (s.setLock n l).slot j = s.slot j := rfl
@[simp] theorem latch_setLock (n : LockId) (l : Lock) (d : AlertCause) : (s.setLock n l).latch d = s.latch d := rfl
@[simp] theorem anchor_setLock (n : LockId) (l : Lock) (space : BitVec 3) : (s.setLock n l).anchor space = s.anchor space := rfl
@[simp] theorem draining_setLock (n : LockId) (l : Lock) : (s.setLock n l).draining = s.draining := rfl
@[simp] theorem port_setLatch (c : AlertCause) (l : Latch) (q : Port) : (s.setLatch c l).port q = s.port q := rfl
@[simp] theorem slot_setLatch (c : AlertCause) (l : Latch) (j : SlotId) : (s.setLatch c l).slot j = s.slot j := rfl
@[simp] theorem lock_setLatch (c : AlertCause) (l : Latch) (m : LockId) : (s.setLatch c l).lock m = s.lock m := rfl
@[simp] theorem anchor_setLatch (c : AlertCause) (l : Latch) (space : BitVec 3) : (s.setLatch c l).anchor space = s.anchor space := rfl
@[simp] theorem draining_setLatch (c : AlertCause) (l : Latch) : (s.setLatch c l).draining = s.draining := rfl
@[simp] theorem port_modSet (i : Fin 128) (f : CacheSet → CacheSet) (q : Port) : (s.modSet i f).port q = s.port q := rfl
@[simp] theorem slot_modSet (i : Fin 128) (f : CacheSet → CacheSet) (j : SlotId) : (s.modSet i f).slot j = s.slot j := rfl
@[simp] theorem lock_modSet (i : Fin 128) (f : CacheSet → CacheSet) (m : LockId) : (s.modSet i f).lock m = s.lock m := rfl
@[simp] theorem latch_modSet (i : Fin 128) (f : CacheSet → CacheSet) (d : AlertCause) : (s.modSet i f).latch d = s.latch d := rfl
@[simp] theorem anchor_modSet (i : Fin 128) (f : CacheSet → CacheSet) (space : BitVec 3) : (s.modSet i f).anchor space = s.anchor space := rfl
@[simp] theorem draining_modSet (i : Fin 128) (f : CacheSet → CacheSet) : (s.modSet i f).draining = s.draining := rfl
@[simp] theorem port_setArbiter (t : Target) (a : Arbiter) (q : Port) : (s.setArbiter t a).port q = s.port q := by cases t <;> rfl
@[simp] theorem slot_setArbiter (t : Target) (a : Arbiter) (j : SlotId) : (s.setArbiter t a).slot j = s.slot j := by cases t <;> rfl
@[simp] theorem lock_setArbiter (t : Target) (a : Arbiter) (m : LockId) : (s.setArbiter t a).lock m = s.lock m := by cases t <;> rfl
@[simp] theorem latch_setArbiter (t : Target) (a : Arbiter) (d : AlertCause) : (s.setArbiter t a).latch d = s.latch d := by cases t <;> rfl
@[simp] theorem anchor_setArbiter (t : Target) (a : Arbiter) (space : BitVec 3) : (s.setArbiter t a).anchor space = s.anchor space := by cases t <;> rfl
@[simp] theorem draining_setArbiter (t : Target) (a : Arbiter) : (s.setArbiter t a).draining = s.draining := by cases t <;> rfl

/-! ### Two states with the same fields -/

/-- A state with the records of its ports put back is itself. -/
theorem modPort_id (p : Port) : (s.modPort p fun r => r) = s := by
  cases s; simp [State.modPort, State.port]

/-- Two changes of one port's record are one. -/
theorem modPort_modPort (p : Port) (f g : PortRec → PortRec) : (s.modPort p f).modPort p g = s.modPort p fun r => g (f r) := by
  cases s; simp [State.modPort, State.port]

/-- Two port tables that agree at every port are equal. -/
theorem ports_ext {v w : Vector PortRec 8} (h : ∀ p : Port, v[p] = w[p]) : v = w := by
  ext i hi
  exact h ⟨i, hi⟩

/-- Every port's record changed by the identity is no change. -/
theorem mapPorts_id (f : Port → PortRec → PortRec) (h : ∀ p, f p (s.port p) = s.port p) : s.mapPorts f = s := by
  have e : (s.mapPorts f).ports = s.ports := ports_ext fun p => by
    have := port_mapPorts s f p
    simp only [State.port] at this h ⊢
    rw [this, h]
  cases s
  simp only [State.mapPorts] at e ⊢
  rw [e]

end Sys2Proof.Machine
end

