-- ==== Sys2Proof/Laws/Unchanged.lean ====
section
/-! SUPPORT. What each shared operation leaves unchanged. State.butPorts and its like are the state with some fields blanked; that an operation keeps such a view says once that it changes nothing but those fields. Field lemmas follow by congrArg, and views compose by trans. -/

namespace Sys2Proof.Machine

/-! ### Views -/

/-- All but the ports. -/
def State.butPorts (s : State) : State := { s with ports := portsPowerOn }

/-- All but the walker. -/
def State.butWalker (s : State) : State := { s with walker := Walker.powerOn }

/-- All but the arbiters and the count of free values. -/
def State.butArbiters (s : State) : State := { s with nearArbiter := Arbiter.powerOn, poolArbiter := Arbiter.powerOn, freeCount := 0 }

/-- All but the ports, the arbiters and the count of free values. -/
def State.butWork (s : State) : State := s.butPorts.butArbiters

/-- All but the ports and the locks. -/
def State.butLocks (s : State) : State := { s.butPorts with locks := Vector.replicate 32 Lock.powerOn }

/-- All but the ports and the latches. -/
def State.butLatches (s : State) : State := { s.butPorts with latches := Vector.replicate 6 Latch.clear }

/-- All but the ports, the locks, the latches and the count of lease expiries. -/
def State.butLeases (s : State) : State := { s.butLocks.butLatches with leaseExpiries := 0 }

/-- All but the cache and its two counters. -/
def State.butCache (s : State) : State := { s with cache := Vector.replicate 128 CacheSet.powerOn, cacheHits := 0, cacheMisses := 0 }

/-- All that a portion's progress changes: not the ports, arbiters, cache, its counters or the count of free values. -/
def State.butAccess (s : State) : State := s.butWork.butCache

/-- All that a walk's progress changes: butAccess without the walker, the latches and the walk counters. -/
def State.butWalks (s : State) : State := { s.butAccess.butWalker.butLatches with walksStarted := 0, staleWalks := 0 }

/-- All that the settling of an event may change beside its takings: not the ports, the walker, the fence, the arbiters and the count of free values. -/
def State.butHousekeeping (s : State) : State := { s.butWork.butWalker with fence := .none }

/-! ### From one view to a coarser one -/

section
variable {s t : State}

theorem butWork_of_butPorts (h : t.butPorts = s.butPorts) : t.butWork = s.butWork := congrArg State.butArbiters h
theorem butWork_of_butArbiters (h : t.butArbiters = s.butArbiters) : t.butWork = s.butWork := congrArg State.butPorts h
theorem butLocks_of_butPorts (h : t.butPorts = s.butPorts) : t.butLocks = s.butLocks :=
  congrArg (fun u : State => { u with locks := Vector.replicate 32 Lock.powerOn }) h
theorem butLatches_of_butPorts (h : t.butPorts = s.butPorts) : t.butLatches = s.butLatches :=
  congrArg (fun u : State => { u with latches := Vector.replicate 6 Latch.clear }) h
theorem butLeases_of_butLocks (h : t.butLocks = s.butLocks) : t.butLeases = s.butLeases :=
  congrArg (fun u : State => { u.butLatches with leaseExpiries := 0 }) h
theorem butLeases_of_butLatches (h : t.butLatches = s.butLatches) : t.butLeases = s.butLeases :=
  congrArg (fun u : State => { u.butLocks with leaseExpiries := 0 }) h
theorem butAccess_of_butWork (h : t.butWork = s.butWork) : t.butAccess = s.butAccess := congrArg State.butCache h
theorem butAccess_of_butPorts (h : t.butPorts = s.butPorts) : t.butAccess = s.butAccess := butAccess_of_butWork (butWork_of_butPorts h)
theorem butAccess_of_butCache (h : t.butCache = s.butCache) : t.butAccess = s.butAccess := congrArg State.butWork h
theorem butWalks_of_butAccess (h : t.butAccess = s.butAccess) : t.butWalks = s.butWalks :=
  congrArg (fun u : State => { u.butWalker.butLatches with walksStarted := 0, staleWalks := 0 }) h
theorem butWalks_of_butLatches (h : t.butLatches = s.butLatches) : t.butWalks = s.butWalks :=
  congrArg (fun u : State => { u.butAccess.butWalker with walksStarted := 0, staleWalks := 0 }) h
theorem butWalks_of_butWalker (h : t.butWalker = s.butWalker) : t.butWalks = s.butWalks :=
  congrArg (fun u : State => { u.butAccess.butLatches with walksStarted := 0, staleWalks := 0 }) h
theorem butHousekeeping_of_butWork (h : t.butWork = s.butWork) : t.butHousekeeping = s.butHousekeeping :=
  congrArg (fun u : State => { u.butWalker with fence := .none }) h
theorem butHousekeeping_of_butWalker (h : t.butWalker = s.butWalker) : t.butHousekeeping = s.butHousekeeping :=
  congrArg (fun u : State => { u.butWork with fence := .none }) h

end

/-- A fold of steps that keep a view keeps it. -/
theorem foldl_keeps {α β : Type} (view : State → β) (f : State → α → State) (h : ∀ s a, view (f s a) = view s) (l : List α) (s : State) :
    view (l.foldl f s) = view s := by
  induction l generalizing s with
  | nil => rfl
  | cons a l ih => exact (ih (f s a)).trans (h s a)

variable (s : State)

/-! ### Alerts, free values -/

theorem occurrence_keeps (c : AlertCause) (p : Port) (a : Option (BitVec 32)) : (s.occurrence c p a).butLatches = s.butLatches := by
  unfold State.occurrence
  split
  · rfl
  · split <;> rfl

theorem drawBit_keeps : s.drawBit.2.butArbiters = s.butArbiters := rfl

theorem drawPick_keeps : s.drawPick.2.butArbiters = s.butArbiters := rfl

theorem drawPort_keeps (q : Port) (rest : List Port) : (s.drawPort q rest).2.butArbiters = s.butArbiters := by
  unfold State.drawPort
  split <;> rfl

/-! ### Arbiters -/

theorem setArbiter_keeps (t : Target) (a : Arbiter) : (s.setArbiter t a).butArbiters = s.butArbiters := by cases t <;> rfl

theorem placeOp_keeps (t : Target) (op : MemOp) : (s.placeOp t op).butArbiters = s.butArbiters := setArbiter_keeps s t _

theorem arbiterTake_keeps (t : Target) : (s.arbiterTake t).butArbiters = s.butArbiters := by
  unfold State.arbiterTake
  split
  · split
    · exact setArbiter_keeps s t _
    · rfl
  · rfl

theorem arbitersTake_keeps : s.arbitersTake.butArbiters = s.butArbiters := by
  simp only [State.arbitersTake, arbiterTake_keeps]

theorem arbiterRace_keeps : s.arbiterRace.butArbiters = s.butArbiters := by
  unfold State.arbiterRace
  split
  · split
    · exact (arbitersTake_keeps _).trans (drawBit_keeps s)
    · rfl
  · rfl

theorem leaveArbiter_keeps (t : Target) (op : MemOp) : (s.leaveArbiter t op).butArbiters = s.butArbiters := setArbiter_keeps s t _

/-! ### Reporting, fences, offers, resets that are done -/

theorem reportAll_keeps : s.reportAll.butPorts = s.butPorts := by
  unfold State.reportAll
  split <;> rfl

theorem reportOf_keeps (who : Port → Bool) : (s.reportOf who).butPorts = s.butPorts := rfl

theorem dispatchWork_keeps : s.dispatchWork.butWork = s.butWork :=
  (butWork_of_butArbiters (arbitersTake_keeps s.reportAll)).trans (butWork_of_butPorts (reportAll_keeps s))

theorem fenceTest_keeps : s.fenceTest.butHousekeeping = s.butHousekeeping := by
  unfold State.fenceTest
  split
  · split <;> rfl
  · rfl
  · rfl

theorem offerSlot_keeps (i : SlotId) : (s.offerSlot i).butWalker = s.butWalker := by
  unfold State.offerSlot
  split
  · split <;> rfl
  · rfl

theorem offerSlots_keeps : s.offerSlots.butWalker = s.butWalker := foldl_keeps State.butWalker State.offerSlot offerSlot_keeps allSlots s

theorem finishReset_keeps (p : Port) : (s.finishReset p).butPorts = s.butPorts := by
  unfold State.finishReset
  split <;> rfl

theorem finishResets_keeps : s.finishResets.butPorts = s.butPorts := foldl_keeps State.butPorts State.finishReset finishReset_keeps allPorts s

/-- Outside a device reset, housekeeping changes the ports, the walker and the fence record alone. -/
theorem housekeep_keeps (h : s.draining = false) : s.housekeep.butHousekeeping = s.butHousekeeping := by
  have e1 : s.tryEndDeviceReset = s := by simp [State.tryEndDeviceReset, h]
  have e2 : s.finishResets.butHousekeeping = s.butHousekeeping :=
    butHousekeeping_of_butWork (butWork_of_butPorts (finishResets_keeps s))
  simp only [State.housekeep, e1]
  split
  · exact e2
  · exact (fenceTest_keeps _).trans ((butHousekeeping_of_butWalker (offerSlots_keeps _)).trans e2)

/-! ### Locks -/

theorem passLock_keeps (n : LockId) (p : Port) : (s.passLock n p).butLocks = s.butLocks := by
  simp only [State.passLock]
  split <;> rfl

theorem expireLease_keeps (n : LockId) : (s.expireLease n).butLeases = s.butLeases := by
  simp only [State.expireLease]
  split
  · rename_i p _
    have e := (butLeases_of_butLatches (occurrence_keeps ((s.addRecord p (.leaseLost n)).passLock n p) .leaseExpired p
      (some (.ofNat 32 n.val)))).trans (butLeases_of_butLocks (passLock_keeps (s.addRecord p (.leaseLost n)) n p))
    exact e
  · rfl

theorem expireIfDue_keeps (n : LockId) : (s.expireIfDue n).butLeases = s.butLeases := by
  unfold State.expireIfDue
  split
  · exact expireLease_keeps s n
  · rfl

theorem leaseTick_keeps : s.leaseTick.butLeases = s.butLeases :=
  foldl_keeps State.butLeases State.expireIfDue expireIfDue_keeps allLocks _

theorem timersTick_keeps : s.timersTick.butPorts = s.butPorts := rfl

theorem timersTickOf_keeps (who : Port → Bool) : (s.timersTickOf who).butPorts = s.butPorts := rfl

/-- A tick at its consumers, in whatever order, changes what the lock unit's tick and the reporting units change. -/
theorem tickInOrder_keeps (order : Nat) : (s.tickInOrder order).butLeases = s.butLeases := by
  have hp : ∀ {u v : State}, u.butPorts = v.butPorts → u.butLeases = v.butLeases := fun h => butLeases_of_butLocks (butLocks_of_butPorts h)
  unfold State.tickInOrder
  exact (hp (timersTickOf_keeps _ _)).trans ((hp (reportOf_keeps _ _)).trans ((leaseTick_keeps _).trans
    ((hp (reportOf_keeps _ _)).trans (hp (timersTickOf_keeps _ _)))))

theorem lockLeaves_keeps (p : Port) (n : LockId) : (State.lockLeaves p s n).butLocks = s.butLocks := by
  simp only [State.lockLeaves]
  split
  · exact passLock_keeps s n p
  · split <;> rfl

theorem locksLeave_keeps (p : Port) : (s.locksLeave p).butLocks = s.butLocks :=
  foldl_keeps State.butLocks (State.lockLeaves p) (fun s n => lockLeaves_keeps s p n) allLocks s

/-! ### Cache -/

theorem lookup_keeps (k : Key) (write : Bool) : (s.lookup k write).2.butCache = s.butCache := by
  simp only [State.lookup]
  split
  · split <;> rfl
  · rfl

theorem installEntry_keeps (k : Key) (t : Translation) : (s.installEntry k t).butCache = s.butCache := rfl

/-! ### Access requests -/

theorem faultPortion_keeps (p : Port) (st : Status) : (s.faultPortion p st).butPorts = s.butPorts := rfl

theorem placePortion_keeps (p : Port) (t : Target) (a : Nat) : (s.placePortion p t a).butWork = s.butWork := by cases t <;> rfl

theorem issue_keeps (p : Port) : (s.issue p).butWork = s.butWork := by
  simp only [State.issue]
  split
  · rfl
  · split
    · rfl
    · exact placePortion_keeps s p _ _
    · split
      · rfl
      · exact placePortion_keeps s p _ _

theorem translated_keeps (p : Port) (t : Translation) : (s.translated p t).butWork = s.butWork := by
  simp only [State.translated]
  split
  · rfl
  · split
    · rfl
    · split
      · rfl
      · exact issue_keeps _ p

theorem lookupPortion_keeps (p : Port) : (s.lookupPortion p).butAccess = s.butAccess := by
  simp only [State.lookupPortion]
  have e := butAccess_of_butCache (lookup_keeps s (keyOf (s.port p).engine.portion.addr)
    ((s.port p).engine.current.any fun c => c.ops.translatesWrite))
  split
  · exact (butAccess_of_butWork (translated_keeps _ p _)).trans e
  · exact e
  · exact e

theorem startPortion_keeps (p : Port) : (s.startPortion p).butAccess = s.butAccess := by
  simp only [State.startPortion]
  split
  · exact butAccess_of_butWork (issue_keeps s p)
  · split
    · rfl
    · split
      · rfl
      · exact lookupPortion_keeps s p

theorem portionDone_keeps (p : Port) : (s.portionDone p).butAccess = s.butAccess := by
  simp only [State.portionDone]
  split
  · rfl
  · split
    · exact startPortion_keeps _ p
    · rfl

theorem operationDone_keeps (p : Port) (res : OpResult) : (s.operationDone p res).butAccess = s.butAccess := by
  cases res
  · exact portionDone_keeps _ p
  · exact portionDone_keeps s p
  · exact portionDone_keeps s p
  · rfl

/-! ### The walker -/

theorem joinSlot_keeps (i : SlotId) (p : Port) (m : Bool) : (s.joinSlot i p m).butWalks = s.butWalks := rfl

theorem deliver_keeps (o : WalkOutcome) (w : Waiter) : (s.deliver o w).butAccess = s.butAccess := by
  unfold State.deliver
  split
  · rfl
  · split
    · exact lookupPortion_keeps s _
    · exact butAccess_of_butWork (translated_keeps s _ _)

theorem deliverAll_keeps (o : WalkOutcome) (l : List Waiter) : (State.deliverAll o l s).butAccess = s.butAccess := by
  induction l generalizing s with
  | nil => rfl
  | cons w l ih =>
      cases l with
      | nil => exact deliver_keeps s o w
      | cons w' l =>
          exact (ih _).trans ((butAccess_of_butWork (butWork_of_butArbiters (arbiterRace_keeps _))).trans (deliver_keeps s o w))

theorem tableErrorOccurrence_keeps (o : WalkOutcome) (w : WalkSlot) : (s.tableErrorOccurrence o w).butLatches = s.butLatches := by
  unfold State.tableErrorOccurrence
  split
  · exact occurrence_keeps s _ _ _
  · rfl

theorem reportAfter_keeps (o : WalkOutcome) (w : WalkSlot) (n : Nat) : (s.reportAfter o w n).butWalks = s.butWalks := by
  have hd : ∀ (u : State) (l : List Waiter), (State.deliverAll o l u).butWalks = u.butWalks := fun u l =>
    butWalks_of_butAccess (deliverAll_keeps u o l)
  unfold State.reportAfter
  exact (hd _ _).trans ((butWalks_of_butLatches (tableErrorOccurrence_keeps _ o w)).trans (hd _ _))

theorem reportWalk_keeps (o : WalkOutcome) (w : WalkSlot) : (s.reportWalk o w).butWalks = s.butWalks := by
  unfold State.reportWalk
  split
  · exact reportAfter_keeps s.drawPick.2 o w _
  · exact (butWalks_of_butAccess (deliverAll_keeps _ o _)).trans (butWalks_of_butLatches (tableErrorOccurrence_keeps s o w))

theorem installResult_keeps (o : WalkOutcome) (w : WalkSlot) : (s.installResult o w).butCache = s.butCache := by
  unfold State.installResult
  split
  · split <;> rfl
  · rfl

theorem endWalk_keeps (i : SlotId) (o : WalkOutcome) : (s.endWalk i o).butWalks = s.butWalks := by
  have e := (reportWalk_keeps (s.installResult o (s.slot i)) o (s.slot i)).trans
    (butWalks_of_butAccess (butAccess_of_butCache (installResult_keeps s o (s.slot i))))
  simp only [State.endWalk]
  generalize (s.installResult o (s.slot i)).reportWalk o (s.slot i) = t at e ⊢
  exact Eq.trans rfl e

theorem enterPhase_keeps (i : SlotId) (ph : WalkPhase) (a : Nat) : (s.enterPhase i ph a).butWalks = s.butWalks := by
  have hp : ∀ (u : State) (t : Target) (op : MemOp), (u.placeOp t op).butWalks = u.butWalks := fun u t op =>
    butWalks_of_butAccess (butAccess_of_butWork (butWork_of_butArbiters (placeOp_keeps u t op)))
  simp only [State.enterPhase]
  split
  · exact endWalk_keeps _ i _
  · exact hp _ _ _
  · split
    · exact hp _ _ _
    · rfl

theorem giveSlot_keeps (i : SlotId) (p : Port) (k : Key) (m : Bool) : (s.giveSlot i p k m).butWalks = s.butWalks := by
  simp only [State.giveSlot]
  generalize hg : ({ WalkSlot.empty with
      phase := .descriptor, key := k, origin := p, tableBase := (s.anchor k.space).base
      setModified := m, waiters := [⟨p, m⟩] } : WalkSlot) = given
  generalize hu : ((({ s with walksStarted := s.walksStarted + 1 } : State).modSlot i fun _ => given).modEngine p
      fun e => { e with state := .walkWait }) = u
  have h : u.butWalks = s.butWalks := by rw [← hu]; rfl
  exact (enterPhase_keeps u i .descriptor _).trans h

theorem walkerTakes_keeps (p : Port) : (s.walkerTakes p).butWalks = s.butWalks := by
  simp only [State.walkerTakes]
  split
  · exact joinSlot_keeps s _ p _
  · exact giveSlot_keeps s _ _ _ _
  · rfl

theorem repeatLookup_keeps (p : Port) (e : WaitEntry) : (s.repeatLookup p e).butWalks = s.butWalks :=
  Eq.trans (b := (s.lookup e.key e.needsModified).2.butWalks) rfl
    (butWalks_of_butAccess (butAccess_of_butCache (lookup_keeps s e.key e.needsModified)))

theorem answerOffer_keeps (p : Port) (i : SlotId) (e : WaitEntry) (l : Lookup) : (s.answerOffer p i e l).butWalks = s.butWalks := by
  have h : ((s.leaveWaitList p).withdrawOffer p).butWalks = s.butWalks := rfl
  simp only [State.answerOffer]
  split
  · exact (butWalks_of_butAccess (butAccess_of_butWork (translated_keeps _ p _))).trans h
  · split
    · exact (joinSlot_keeps _ _ p _).trans h
    · exact (giveSlot_keeps _ i p _ _).trans h

theorem descriptorDone_keeps (i : SlotId) (res : OpResult) : (s.descriptorDone i res).butWalks = s.butWalks := by
  simp only [State.descriptorDone]
  split
  · split
    · exact endWalk_keeps s i _
    · exact enterPhase_keeps _ i _ _
  · exact endWalk_keeps s i _

/-! ### Memory operations at their targets -/

/-- What an operation does at its target changes the stores alone. -/
theorem perform_keeps (t : Target) (op : MemOp) :
    { (s.perform t op).2 with near := s.near, pool := s.pool } = s := by
  unfold State.perform
  split
  · split <;> rfl
  · cases t <;> rfl
  · split
    · rfl
    · simp only
      split
      · rfl
      · cases t <;> rfl

/-! ### Resets -/

theorem restArbiters_keeps : s.restArbiters.butArbiters = s.butArbiters := by
  unfold State.restArbiters
  split <;> rfl

theorem restWalker_keeps : s.restWalker.butWalks = s.butWalks := by
  unfold State.restWalker
  split <;> rfl

/-- Where a device reset does not end, what is done for it changes the arbiters and the walker alone. -/
theorem tryEndDeviceReset_keeps (h : s.drained = false) : s.tryEndDeviceReset.butWalks = s.butWalks := by
  unfold State.tryEndDeviceReset
  split
  · rw [h]
    exact (restWalker_keeps _).trans (butWalks_of_butAccess (butAccess_of_butWork (butWork_of_butArbiters (restArbiters_keeps s))))
  · rfl

/-- The end of a device reset leaves the memory, the pool, the queue of commands and the count of free values as they were (R187). -/
theorem endDeviceReset_keeps :
    s.endDeviceReset.near = s.near ∧ s.endDeviceReset.pool = s.pool ∧ s.endDeviceReset.pending = s.pending
      ∧ s.endDeviceReset.freeCount = s.freeCount := ⟨rfl, rfl, rfl, rfl⟩

end Sys2Proof.Machine
end

