-- ==== Sys2Proof/Laws/Settle.lean ====
section
/-! SUPPORT. The settling of an event: what housekeeping and the dispatch of work do when there is nothing to do, what an invariant must keep to be kept by a whole event, and what the arrival of a request does at a port whose engine is ready to take it. -/

namespace Sys2Proof.Machine

/-! ### Ports, takers and the other lists of the model -/

theorem mem_allPorts (p : Port) : p ∈ allPorts := by fin_cases p <;> simp [allPorts]

theorem mem_allSlots (i : SlotId) : i ∈ allSlots := by fin_cases i <;> simp [allSlots]

theorem takers_eq_nil {s : State} : s.takers = [] ↔ ∀ p, s.canTake p = false := by
  simp only [State.takers, List.filter_eq_nil_iff, Bool.not_eq_true]
  exact ⟨fun h p => h p (mem_allPorts p), fun h p _ => h p⟩

theorem mem_takers {s : State} {p : Port} : p ∈ s.takers ↔ s.canTake p = true := by
  simp [State.takers, List.mem_filter, mem_allPorts]

theorem mem_ringAfter (p q : Port) : q ∈ ringAfter p := by
  fin_cases p <;> fin_cases q <;> decide

/-! ### Nothing to do -/

theorem finishReset_of_waits {s : State} {p : Port} (h : (s.port p).state = .resetting → s.hasOp (.engine p) = true) : s.finishReset p = s := by
  unfold State.finishReset
  split
  · rename_i hc
    simp only [Bool.and_eq_true, decide_eq_true_eq, Bool.not_eq_true'] at hc
    rw [h hc.1.1] at hc
    simp at hc
  · rfl

theorem foldl_same {α : Type} (f : State → α → State) (l : List α) (s : State) (h : ∀ a, f s a = s) : l.foldl f s = s := by
  induction l with
  | nil => rfl
  | cons a l ih => rw [List.foldl_cons, h a, ih]

theorem finishResets_of_waits {s : State} (h : ∀ p : Port, (s.port p).state = .resetting → s.hasOp (.engine p) = true) : s.finishResets = s :=
  foldl_same _ _ _ fun p => finishReset_of_waits (h p)

theorem offerSlot_of_none {s : State} {i : SlotId} (h : (s.slot i).phase = .free → (s.slot i).offeredTo = none → s.nextOffered = none) :
    s.offerSlot i = s := by
  unfold State.offerSlot
  split
  · rename_i hc
    simp only [Bool.and_eq_true, beq_iff_eq, Option.isNone_iff_eq_none] at hc
    rw [h hc.1 hc.2]
  · rfl

theorem offerSlots_of_none {s : State} (h : ∀ i : SlotId, (s.slot i).phase = .free → (s.slot i).offeredTo = none → s.nextOffered = none) :
    s.offerSlots = s := foldl_same _ _ _ fun i => offerSlot_of_none (h i)

theorem fenceTest_of_unmet {s : State} (h : s.fenceMet = false) : s.fenceTest = s := by
  unfold State.fenceMet at h
  unfold State.fenceTest
  cases hf : s.fence with
  | none => rfl
  | held o t st => rfl
  | pending o t st =>
      simp only [hf] at h ⊢
      simp [h]

/-- Housekeeping with nothing to do: no reset is done, no slot can be offered, no fence is met. -/
theorem housekeep_of_idle {s : State} (hd : s.draining = false)
    (hr : ∀ p : Port, (s.port p).state = .resetting → s.hasOp (.engine p) = true)
    (ho : ∀ i : SlotId, (s.slot i).phase = .free → (s.slot i).offeredTo = none → s.nextOffered = none)
    (hf : s.fenceMet = false) : s.housekeep = s := by
  have e1 : s.tryEndDeviceReset = s := by simp [State.tryEndDeviceReset, hd]
  simp only [State.housekeep, e1, finishResets_of_waits hr, hd, offerSlots_of_none ho, fenceTest_of_unmet hf]
  simp

/-- Housekeeping with nothing to do but the test of a fence. -/
theorem housekeep_eq_fenceTest {s : State} (hd : s.draining = false)
    (hr : ∀ p : Port, (s.port p).state = .resetting → s.hasOp (.engine p) = true)
    (ho : ∀ i : SlotId, (s.slot i).phase = .free → (s.slot i).offeredTo = none → s.nextOffered = none) : s.housekeep = s.fenceTest := by
  have e1 : s.tryEndDeviceReset = s := by simp [State.tryEndDeviceReset, hd]
  simp only [State.housekeep, e1, finishResets_of_waits hr, hd, offerSlots_of_none ho]
  simp

theorem arbiterTake_of_not_ready {s : State} {t : Target} (h : s.arbiterReady t = false) : s.arbiterTake t = s := by simp [State.arbiterTake, h]

theorem arbitersTake_of_not_ready {s : State} (hn : s.arbiterReady .near = false) (he : s.arbiterReady .external = false) : s.arbitersTake = s := by
  simp [State.arbitersTake, arbiterTake_of_not_ready hn, arbiterTake_of_not_ready he]

theorem PortRec.report_of_not_canTransmit {r : PortRec} (h : r.canTransmit = false) : r.report = r := by simp [PortRec.report, h]

theorem reportAll_of_none {s : State} (h : ∀ p : Port, (s.port p).canTransmit = false) : s.reportAll = s := by
  unfold State.reportAll
  split
  · rfl
  · exact mapPorts_id s _ fun p => PortRec.report_of_not_canTransmit (h p)

theorem mapPorts_eq_modPort (s : State) (f : Port → PortRec → PortRec) (p : Port) (h : ∀ q, q ≠ p → f q (s.port q) = s.port q) :
    s.mapPorts f = s.modPort p (f p) := by
  have e : (s.mapPorts f).ports = (s.modPort p (f p)).ports := ports_ext fun q => by
    show (s.mapPorts f).port q = (s.modPort p (f p)).port q
    rw [port_mapPorts, port_modPort]
    by_cases hq : p = q
    · subst hq; simp
    · rw [if_neg hq, h q (Ne.symm hq)]
  simp only [State.mapPorts, State.modPort] at e ⊢
  rw [e]

/-- When no port but p has a frame to begin, the transmitters' choice is p's. -/
theorem reportAll_eq_modPort {s : State} (hd : s.draining = false) (p : Port) (h : ∀ q, q ≠ p → (s.port q).canTransmit = false) :
    s.reportAll = s.modPort p PortRec.report := by
  simp only [State.reportAll, hd, Bool.false_eq_true, if_false]
  exact mapPorts_eq_modPort s _ p fun q hq => PortRec.report_of_not_canTransmit (h q hq)

/-! ### What comes before a taking -/

theorem arbiterRace_of_not_ready {s : State} (hn : s.arbiterReady .near = false) (he : s.arbiterReady .external = false) : s.arbiterRace = s := by
  simp [State.arbiterRace, hn, he]

/-- When no engine may take a request after the transmitters' choice, what comes before a taking is the dispatch of work. -/
theorem beforeTaking_of_no_takers {s : State} (h : s.reportAll.takers = []) : s.beforeTaking = s.dispatchWork := by
  simp [State.beforeTaking, State.dispatchWork, h]

/-- With nothing for the arbiters to take, what comes before a taking is the transmitters' choice alone. -/
theorem beforeTaking_of_not_ready {s : State} (hn : s.reportAll.arbiterReady .near = false) (he : s.reportAll.arbiterReady .external = false) :
    s.beforeTaking = s.reportAll := by
  unfold State.beforeTaking
  split
  · exact arbitersTake_of_not_ready hn he
  · exact arbiterRace_of_not_ready hn he

/-! ### At rest nothing follows -/

theorem restArbiters_of_rest {s : State}
    (h : s.nearArbiter.taken = [] → s.poolArbiter.taken = [] → s.nearArbiter = Arbiter.powerOn ∧ s.poolArbiter = Arbiter.powerOn) :
    s.restArbiters = s := by
  unfold State.restArbiters
  split
  · rename_i hc
    simp only [Bool.and_eq_true, List.isEmpty_iff] at hc
    obtain ⟨h1, h2⟩ := h hc.1 hc.2
    exact congrArg₂ (fun a b : Arbiter => ({ s with nearArbiter := a, poolArbiter := b } : State)) h1.symm h2.symm
  · rfl

theorem restWalker_of_rest {s : State}
    (h : s.walkerOutstanding = false → s.walker = Walker.powerOn ∧ s.walksStarted = 0 ∧ s.staleWalks = 0) : s.restWalker = s := by
  unfold State.restWalker
  split
  · rfl
  · rename_i hc
    obtain ⟨h1, h2, h3⟩ := h (by simpa using hc)
    rw [← h1, ← h2]
    exact congrArg (fun n : BitVec 32 => ({ s with staleWalks := n } : State)) (h2.trans h3.symm)

/-- In a device reset that has not drained, its arbiters and its walker at rest if they can be, nothing of it is to be done. -/
theorem tryEndDeviceReset_of_waiting {s : State} (hd : s.draining = true) (hw : s.drained = false)
    (ha : s.nearArbiter.taken = [] → s.poolArbiter.taken = [] → s.nearArbiter = Arbiter.powerOn ∧ s.poolArbiter = Arbiter.powerOn)
    (hk : s.walkerOutstanding = false → s.walker = Walker.powerOn ∧ s.walksStarted = 0 ∧ s.staleWalks = 0) : s.tryEndDeviceReset = s := by
  simp only [State.tryEndDeviceReset, hd, hw, if_true, Bool.false_eq_true, if_false, restArbiters_of_rest ha, restWalker_of_rest hk]

theorem AtRest.housekeep {s : State} (h : s.AtRest) : s.housekeep = s := by
  obtain ⟨_, _, _, hn, hdr⟩ := h
  by_cases hd : s.draining = true
  · have e1 : s.tryEndDeviceReset = s := tryEndDeviceReset_of_waiting hd (hdr hd).1 (hdr hd).2.1 (hdr hd).2.2
    have e2 : s.finishResets = s := foldl_same _ _ _ fun p => by simp [State.finishReset, hd]
    simp [State.housekeep, e1, e2, hd]
  · have hd' : s.draining = false := by simpa using hd
    obtain ⟨_, hr, ho, hf⟩ := hn hd'
    exact housekeep_of_idle hd' hr ho hf

theorem AtRest.reportAll {s : State} (h : s.AtRest) : s.reportAll = s := by
  obtain ⟨_, _, _, hn, _⟩ := h
  by_cases hd : s.draining = true
  · simp [State.reportAll, hd]
  · exact reportAll_of_none (hn (by simpa using hd)).1

theorem AtRest.dispatchWork {s : State} (h : s.AtRest) : s.dispatchWork = s := by
  have e := AtRest.reportAll h
  obtain ⟨_, h1, h2, _, _⟩ := h
  simp [State.dispatchWork, e, arbitersTake_of_not_ready h1 h2]

/-- At rest, settling does nothing (R88, R138, R148). -/
theorem AtRest.settle {s : State} (h : s.AtRest) (n : Nat) : State.settle n s = s := by
  have ht : s.takers = [] := takers_eq_nil.2 h.1
  cases n with
  | zero => simp [State.settle, AtRest.housekeep h, AtRest.dispatchWork h]
  | succ n =>
      have hb : s.beforeTaking = s := (beforeTaking_of_no_takers (by rw [AtRest.reportAll h, ht])).trans (AtRest.dispatchWork h)
      simp [State.settle, AtRest.housekeep h, hb, State.thenTake, ht]

/-! ### What an event keeps -/

/-- A property that housekeeping, the transmitters' choice, the arbiters' taking, the taking of a request and the use of a free value keep is kept by the settling of an event. -/
theorem settle_keeps {P : State → Prop} (hk : ∀ s, P s → P s.housekeep) (hr : ∀ s, P s → P s.reportAll) (ha : ∀ s, P s → P s.arbitersTake)
    (ht : ∀ s p, P s → P (s.takeRequest p)) (hf : ∀ (s : State) (n : Nat), P s → P { s with freeCount := n }) (n : Nat) (s : State) (h : P s) :
    P (State.settle n s) := by
  have hb : ∀ s : State, P s → P s.beforeTaking := fun s h => by
    unfold State.beforeTaking State.arbiterRace
    split
    · exact ha _ (hr s h)
    · split
      · split
        · exact ha _ (hf _ _ (hr s h))
        · exact hf _ _ (hr s h)
      · exact hr s h
  have hd : ∀ (u : State) (q : Port) (rest : List Port), P u → P (u.drawPort q rest).2 := fun u q rest h => by
    unfold State.drawPort
    split
    · exact h
    · exact hf _ _ h
  induction n generalizing s with
  | zero => rw [State.settle]; exact ha _ (hr _ (hk s h))
  | succ n ih =>
      rw [State.settle]
      have hu := hb _ (hk s h)
      generalize s.housekeep.beforeTaking = u at hu ⊢
      unfold State.thenTake
      split
      · exact hu
      · exact ih _ (ht _ _ (hd u _ _ hu))

/-- A property that the effect and the settling keep holds after the event. -/
theorem event_keeps {P : State → Prop} {s t : State} {effect : State → State} (h : s.event effect = .next t) (hs : P s)
    (he : P (effect s)) (hset : ∀ u, P u → P (State.settle u.queuedRequests u)) : P t := by
  unfold State.event at h
  split at h
  · cases h; exact hset _ he
  · cases h; exact hs

/-- An event always answers a next state. -/
theorem event_next (s : State) (effect : State → State) : ∃ t, s.event effect = .next t := by
  unfold State.event
  split
  · exact ⟨_, rfl⟩
  · exact ⟨_, rfl⟩

/-! ### The arrival of a request at a ready port -/

theorem queuedRequests_eq (s : State) :
    s.queuedRequests =
      (s.port 0).requestQueue.length + (s.port 1).requestQueue.length + (s.port 2).requestQueue.length + (s.port 3).requestQueue.length
        + (s.port 4).requestQueue.length + (s.port 5).requestQueue.length + (s.port 6).requestQueue.length + (s.port 7).requestQueue.length := by
  simp [State.queuedRequests, allPorts]; omega

theorem queuedRequests_single {s : State} {p : Port} {n : Nat} (hp : (s.port p).requestQueue.length = n)
    (hq : ∀ q, q ≠ p → (s.port q).requestQueue = []) : s.queuedRequests = n := by
  have hl : ∀ q, q ≠ p → (s.port q).requestQueue.length = 0 := fun q h => by rw [hq q h]; rfl
  rw [queuedRequests_eq]
  fin_cases p <;> simp_all

theorem filter_ports_single (f : Port → Bool) (p : Port) (h : f p = true) (hq : ∀ q, q ≠ p → f q = false) : allPorts.filter f = [p] := by
  have e : allPorts.filter f = allPorts.filter (fun q => decide (q = p)) := List.filter_congr fun q _ => by
    by_cases hqp : q = p
    · subst hqp; simp [h]
    · simp [hqp, hq q hqp]
  rw [e]
  fin_cases p <;> decide

/-- The arrival of a request at a ready port with nothing else waiting: the engine takes it at the same event, its rule is carried out, and what follows at the event is done (R88, R89, R161). -/
theorem arrival_taken {s : State} {p : Port} (h : s.Ready p) (r : Request) (hlen : r.payload.length ≤ Config.payloadLimit)
    (hk : (r.kind = batchAckKind && r.payload.isEmpty) = false) :
    s.event (fun s => s.arrive p r) = .next (((s.modPort p fun x => x.engaged r).examine p r).housekeep.dispatchWork) := by
  obtain ⟨⟨hpow, hdr, hrest, hq⟩, hact, hidle, hfen, hcq, hdev⟩ := h
  have hrest' := hrest
  obtain ⟨hct, hn, he, hnd, _⟩ := hrest'
  obtain ⟨htx, hrs, hof, hfm⟩ := hnd hdr
  -- the state with the request in its queue
  generalize hs1 : s.modPort p (fun x => { x with requestQueue := [r], requestsAccepted := x.requestsAccepted + 1 }) = s1
  have harr : s.arrive p r = s1 := by
    have h1 : s.receives p = true := by simp [State.receives, hact, hdr]
    have h2 : ¬(r.payload.length > Config.payloadLimit) := by omega
    have h3 : (s.port p).requestQueue.length < Config.requestQueueLimit := by rw [hq p]; decide
    have hp := hq p
    simp only [State.arrive, h1, if_true, h2, if_false, State.acceptFrame, hk, Bool.false_eq_true, State.admitRequest, h3]
    rw [← hs1]
    simp only [State.modPort, hp, List.nil_append]
  have hport : ∀ q, s1.port q = if p = q then { s.port q with requestQueue := [r], requestsAccepted := (s.port q).requestsAccepted + 1 } else s.port q :=
    fun q => by rw [← hs1, port_modPort]
  have hpp : s1.port p = { s.port p with requestQueue := [r], requestsAccepted := (s.port p).requestsAccepted + 1 } := by rw [hport p, if_pos rfl]
  have hpq : ∀ q, q ≠ p → s1.port q = s.port q := fun q hne => by rw [hport q, if_neg (Ne.symm hne)]
  have hd1 : s1.draining = false := by rw [← hs1]; exact hdr
  have hdv1 : s1.deviceReset = s.deviceReset := by rw [← hs1]; rfl
  have hst : ∀ q, (s1.port q).state = (s.port q).state := fun q => by rw [hport q]; split <;> rfl
  have hop : ∀ q, s1.hasOp q = s.hasOp q := fun q => by rw [← hs1]; rfl
  have hfi : ∀ q, (s1.port q).fenceIdle = (s.port q).fenceIdle := fun q => by rw [hport q]; split <;> rfl
  have hhk : s1.housekeep = s1 := by
    apply housekeep_of_idle hd1
    · intro q hr; rw [hop]; exact hrs q (by rw [← hst q]; exact hr)
    · intro i; rw [← hs1]; exact hof i
    · have : s1.fence = s.fence := by rw [← hs1]; rfl
      unfold State.fenceMet at hfm ⊢
      rw [this]
      cases hf : s.fence <;> simp only [hf, hfi] at hfm ⊢
      exact hfm
  have hct1 : ∀ q, (s1.port q).canTransmit = false := fun q => by
    have : (s1.port q).canTransmit = (s.port q).canTransmit := by rw [hport q]; split <;> rfl
    rw [this]; exact htx q
  have hn1 : s1.arbiterReady .near = false := by rw [← hs1]; exact hn
  have he1 : s1.arbiterReady .external = false := by rw [← hs1]; exact he
  have hra : s1.reportAll = s1 := reportAll_of_none hct1
  have hbt : s1.beforeTaking = s1 := (beforeTaking_of_not_ready (by rw [hra]; exact hn1) (by rw [hra]; exact he1)).trans hra
  have htk : s1.takers = [p] := by
    unfold State.takers
    refine filter_ports_single _ p ?_ ?_
    · simp [State.canTake, PortRec.mayTake, hpp, hact, hidle, hfen, hcq, hdv1, hdev]
    · intro q hne
      have := hct q
      simp only [State.canTake, hpq q hne, hdv1] at this ⊢
      exact this
  have hqn : s1.queuedRequests = 1 := by
    refine queuedRequests_single (p := p) (by rw [hpp]; rfl) ?_
    intro q hne; rw [hpq q hne]; exact hq q
  have htr : s1.takeRequest p = (s.modPort p fun x => x.engaged r).examine p r := by
    simp only [State.takeRequest, hpp]
    rw [← hs1, modPort_modPort]
    rfl
  unfold State.event
  rw [if_pos hpow]
  simp only [harr, hqn, State.settle, hhk, hbt, State.thenTake, htk, State.drawPort, List.isEmpty_nil, if_true, htr]

end Sys2Proof.Machine
end

