-- ==== Sys2Proof/Tests/Slice0.lean ====
section
/-! SUPPORT. Tests: the well-formedness smoke tests; encodings and frames written out from the spec; one-step results; and, for every statement with hypotheses, concrete states and operands that meet them, clause by clause. -/

namespace Sys2Proof.Tests
open Sys2Proof Sys2Proof.Machine

set_option synthInstance.maxSize 3000
set_option synthInstance.maxHeartbeats 400000
set_option Elab.async false

/-! ### Small states -/

/-- Every link up and every port ACTIVE. -/
def up : State := State.reset.mapPorts fun _ r => { r with link := .up, state := .active }

/-- Every port ADMINISTRATIVE too. -/
def admins : State := up.mapPorts fun _ r => { r with cls := .administrative }

/-- A state in which an arbiter has taken one operation. -/
def taking (t : Target) (op : MemOp) (s : State) : State := s.setArbiter t { waiting := [], taken := [op], pointer := 7 }

/-- The pool READY with 16 MiB. -/
def pooled (s : State) : State := { s with pool := { state := .ready, top := 16777216, cells := [], failed := [] } }

/-- The pool INITIALIZING with 16 MiB. -/
def filling (s : State) : State := { s with pool := { state := .initializing, top := 16777216, cells := [], failed := [] } }

/-- A lock with an owner and a lease counter. -/
def owned (n : LockId) (p : Port) (counter : Option Nat) (s : State) : State :=
  s.setLock n { Lock.powerOn with owner := some p, counter }

/-- A port pending on a lock under a tag. -/
def waits (n : LockId) (q : Port) (tag : Tag) (s : State) : State :=
  s.setLock n { s.lock n with pending := (s.lock n).pending.set q (some tag) }

/-- An engine in MEMORY with an access request of tag 9. -/
def working (ops : Operands) (portions : List Portion) (second : Bool) : Engine :=
  { Engine.idle with state := .memory, current := some ⟨9, ops⟩, portions, second }

/-- A port's engine replaced. -/
def withEngine (p : Port) (e : Engine) (s : State) : State := s.modPort p fun r => { r with engine := e }

/-- A port's transmitter busy with a DATA frame. -/
def sending (p : Port) (s : State) : State := s.modPort p fun r => { r with transmitter := some (.data { tag := 1, status := .ok }) }

/-- The key 1/2/3. -/
def key : Key := ⟨1, 2, 3⟩

/-- The logical address 1/2/3/offset. -/
def at123 (offset : Nat) : BitVec 40 := BitVec.ofNat 40 (2147483648 + 8388608 + 49152 + offset)

/-- Space 1 anchored with 64 descriptors for every port, the pool READY, every port ADMINISTRATIVE. -/
def anchored : State := pooled { admins with anchors := admins.anchors.set 1 { base := 0x2000, length := 64, mask := 0xFF } }

/-- A translation with full rights for the ADMINISTRATIVE class. -/
def fullAccess (frame : BitVec 18) (guard : Option LockId) (known : Bool) : Translation :=
  { frame, adminRights := .readWrite, userRights := .noAccess, guard, modifiedKnown := known }

/-- The key 1/2/3 cached. -/
def cached (t : Translation) : State := anchored.installEntry key t

/-- A slot that walks the key 1/2/3 for port 2. -/
def walking (phase : WalkPhase) (stale : Bool) : WalkSlot :=
  { WalkSlot.empty with
    phase, key, origin := 2, tableBase := 0x2000, stale, waiters := [⟨2, false⟩], tableAddress := 0x2010
    carried := ⟨.readWrite, .read, none, false⟩ }

/-- Slot 0 walks the key 1/2/3 for port 2, its operation taken by an arbiter. -/
def walkIn (w : WalkSlot) (t : Target) (op : MemOp) : State :=
  taking t op (withEngine 2 { working (.read (at123 0) 4 false) [⟨(at123 0).setWidth 34, 4⟩] false with state := .walkWait }
    (anchored.modSlot 0 fun _ => w))

/-- Slot 0's descriptor read of 0x2010 in the near store. -/
def descriptorRead : MemOp := { requester := .slot 0, kind := .read 8, addr := 0x2010, discard := false }

/-- Slot 0's map update of 0x300C. -/
def mapOp (m : Bool) : MemOp := { requester := .slot 0, kind := .mapUpdate m, addr := 0x300C, discard := false }

/-- A state with port 3 in SLOT_WAIT for the key 1/2/3, slot 0 offered to it, and an answer or none. -/
def offered (answer : Option Lookup) : State :=
  (withEngine 3 { working (.read (at123 0) 4 false) [⟨(at123 0).setWidth 34, 4⟩] false with state := .slotWait }
    ((anchored.modSlot 0 fun w => { w with offeredTo := some 3 }).setWaitList [⟨3, key, false, answer⟩]))

/-- The same with port 0 waiting too, and no other slot to be had. -/
def alsoWaiting : State :=
  let s := offered (some (.hit (fullAccess 64 none true)))
  (s.setWaitList (s.walker.waitList ++ [⟨0, key, false, none⟩])).mapSlots fun w =>
    if w.offeredTo = none then { walking .map true with waitingReady := true } else w

/-- A state in which the next period ends with a tick. -/
def dueTick (s : State) : State := { s with prescaler := s.divide }

/-- The DONE record of a DEVICE_RESET. -/
def resetRecord : Record := .done 90 .ok none none none none .deviceReset

/-- Port 0's DEVICE_RESET announced, its batch being sent. -/
def announced : State := { up.modPort 0 (fun r => { r with transmitter := some (.batch true [resetRecord]) }) with deviceReset := .announced 0 }

/-- A device reset in progress. -/
def draining (s : State) : State := { s with deviceReset := .draining }

/-- Whether a step answers a next state of which something holds. -/
def after (o : Host.Outcome State Fault Refusal) (f : State → Bool) : Bool :=
  match o with
  | .next t => f t
  | .fault _ => false
  | .refused _ => false

/-! ### Well-formedness: an ill-formed term for each check -/

theorem test_wellFormed_write_empty : (Instr.write 0 0 0 0 []).wellFormed = false := by decide
theorem test_wellFormed_write_long : (Instr.write 0 0 0 0 (List.replicate 257 0)).wellFormed = false := by decide +kernel
theorem test_wellFormed_write_256 : (Instr.write 0 0 0 0 (List.replicate 256 0)).wellFormed = true := by decide +kernel
theorem test_wellFormed_physWrite_empty : (Instr.physWrite 0 0 0 []).wellFormed = false := by decide
theorem test_wellFormed_physWrite_long : (Instr.physWrite 0 0 0 (List.replicate 257 0)).wellFormed = false := by decide +kernel
theorem test_wellFormed_malformed_goodRequest : (Instr.malformedRequest 0 0x20 0 [3]).wellFormed = false := by decide
theorem test_wellFormed_malformed_batchAck : (Instr.malformedRequest 0 0x50 0 []).wellFormed = false := by decide
theorem test_wellFormed_malformed_long : (Instr.malformedRequest 0 0x77 0 (List.replicate 273 0)).wellFormed = false := by decide +kernel
theorem test_wellFormed_malformed : (Instr.malformedRequest 0 0x50 0 [1]).wellFormed = true := by decide
theorem test_wellFormed_admission_batchAck : (Instr.requestAdmission 0 (frameBytes 0x50 7 [])).wellFormed = false := by decide +kernel
theorem test_wellFormed_admission : (Instr.requestAdmission 0 (frameBytes 0x20 7 [3])).wellFormed = true := by decide +kernel

/-! ### Encodings -/

/-- The check value the spec gives for the nine bytes of the text 123456789 (R190). -/
theorem test_check_value : frameCheck [0x31, 0x32, 0x33, 0x34, 0x35, 0x36, 0x37, 0x38, 0x39] = 0x29B1#16 := by decide +kernel

/-- A READ frame written out: kind, tag, length 8, five address bytes, length 256, flags, check (10.1, 10.2). -/
theorem test_read_frame :
    (readFrame ([0x10, 0x2A, 0x00, 0x08, 0x00, 0x80, 0x80, 0xC0, 0x05, 0x01, 0x00, 0x01]
        ++ beBytes 2 (frameCheck [0x10, 0x2A, 0x00, 0x08, 0x00, 0x80, 0x80, 0xC0, 0x05, 0x01, 0x00, 0x01]).toNat)).bind readOperands
      = some (.read (at123 5) 256 true) := by decide +kernel

/-- The same bits as a command (10.2). -/
theorem test_read_request :
    (Instr.read 4 0x2A (at123 5) 256 1).request = some (4, ⟨0x10, 0x2A, [0x00, 0x80, 0x80, 0xC0, 0x05, 0x01, 0x00, 0x01]⟩) := by decide +kernel

/-- A descriptor: map base word, page count less 1, absent and no-cache, rights 2 and 3, guard 31 (10.6). -/
theorem test_descriptor :
    readDescriptor [0x00, 0x00, 0x0C, 0x00, 0x7F, 0xD3, 0x1F, 0x00]
      = { mapBase := 0x3000, pageCount := 128, absent := true, noCache := true, adminRights := some .write, userRights := some .readWrite
          guard := some (some 31) } := by decide +kernel

/-- A map entry: resident, used, modified, frame (10.6); a map update adds used, and modified when it carries it. -/
theorem test_mapEntry :
    entryResident 0x8003FFFF#32 = true ∧ entryFrame 0x8003FFFF#32 = 0x3FFFF#18 ∧ updatedEntry 0x8003FFFF#32 true = 0xE003FFFF#32
      ∧ updatedEntry 0x8003FFFF#32 false = 0xC003FFFF#32 ∧ updatedEntry 0x0003FFFF#32 true = 0x0003FFFF#32 := by decide +kernel

/-- A PARTIAL DONE record: flags for reason, done count and fault address, then the fields (R194). -/
theorem test_done_record :
    Record.encode (.done 9 .partialDone (some .pageAbsent) (some 64) (some (at123 0)) none .plain)
      = [1, 7, 9, 0x02, 0x25, 0x00, 0x40, 0x00, 0x80, 0x80, 0xC0, 0x00] := by decide +kernel

/-- An ALERT record with port and address (R194). -/
theorem test_alert_record : Record.encode (.alert .dataError 1 (some 3) (some 0x100005)) = [5, 3, 2, 0, 1, 3, 0x00, 0x10, 0x00, 0x05] := by
  decide +kernel

/-- The set of key 1/2/3 (R23). -/
theorem test_setIndex : setIndex key = 17 := by decide +kernel

/-! ### Steps -/

/-- An empty queue idles; the front command is taken. -/
theorem test_step : step up = .next up ∧ step { up with pending := [.probe 0 1 0, .unfence 0 2] } = exec (.probe 0 1 0) { up with pending := [.unfence 0 2] } := by
  exact ⟨rfl, rfl⟩

/-- A LOCK of a free lock with a lease of 2 ms loads 2000 ticks; its DONE record leaves in a batch with WAKE at once (C is 1). -/
theorem test_lock :
    after (exec (.lock 1 7 3) (up.setLock 3 { Lock.powerOn with lease := 2 })) (fun t =>
      t.lock 3 == { Lock.powerOn with lease := 2, owner := some 1, counter := some 2000 }
        && (t.port 1).transmitter == some (.batch true [.done 7 .ok none none none none .plain]) && (t.port 1).wake == .awaiting) = true := by
  decide +kernel

/-- A PHYS_WRITE placed in the near store, and its completion. -/
theorem test_physWrite :
    after (exec (.physWrite 0 7 0x1234 [0xAB, 0x00, 0xCD]) up) (fun t => (t.port 0).engine.state == .memory
      && after (exec (.memoryOperationComplete 0) t) fun u => u.near == [(0x1234, 0xAB), (0x1236, 0xCD)]) = true := by decide +kernel

/-- A batch as its bytes reach the link: kind A1, tag 0, length, WAKE, one record, check (10.4). -/
theorem test_delivered :
    after (exec (.lock 1 7 3) up) (fun t => after (exec (.transmissionComplete 1) t) fun u =>
      (u.port 1).delivered.take 10 == [0xA1, 0, 0, 6, 1, 1, 1, 0, 7, 0]) = true := by decide +kernel

/-- A device reset that still waits for a transmission has its arbiters' pointers at port 7 at once (R82). -/
theorem test_drain_rests_arbiters :
    after (exec (.transmissionComplete 0) ({ announced.modPort 5 (fun r => { r with transmitter := some (.data { tag := 1, status := .ok }) }) with
      nearArbiter := { waiting := [], taken := [], pointer := 3 } })) (fun t => t.draining && t.nearArbiter == Arbiter.powerOn) = true := by decide +kernel

/-- A device reset that still waits for a transmission, but for no walker operation, has the walker at its power-on values at once, its counters 0; one that waits for a walker operation has not (R63). -/
theorem test_drain_rests_walker :
    let busy : State := { announced.modPort 5 (fun r => { r with transmitter := some (.data { tag := 1, status := .ok }) }) with walksStarted := 3, staleWalks := 2 }
    let walks : State := taking .near descriptorRead (busy.modSlot 0 fun _ => walking .descriptor false)
    (after (exec (.transmissionComplete 0) busy) (fun t => t.draining && t.walker == Walker.powerOn && t.walksStarted == 0 && t.staleWalks == 0)
      && after (exec (.transmissionComplete 0) walks) (fun t => t.draining && (t.slot 0).phase == .descriptor && t.walksStarted == 3)) = true := by
  decide +kernel

/-! ### Witnesses: the hypotheses of each statement, clause by clause, met by concrete states and operands -/

/-- Port 2's read of one byte, taken by the near arbiter, its result to be discarded. -/
def leftOver : MemOp := { requester := .engine 2, kind := .read 1, addr := 0, discard := true }

/-- Port 2 RESETTING with an operation outstanding, its link as given. -/
def resetting (l : Link) : State := taking .near leftOver (up.modPort 2 fun r => { r with link := l, state := .resetting })

/-- Port 2 ACTIVE in MEMORY with an operation outstanding. -/
def inMemory : State :=
  taking .near { leftOver with discard := false } (withEngine 2 (working (.physRead 0 1) [⟨0, 1⟩] false) admins)

/-- A device reset in progress that waits for an operation. -/
def drainingState : State := draining (taking .near leftOver up)

/-- Port 0's device reset announced, every port ADMINISTRATIVE, its batch being sent or not. -/
def announcedBy0 (busy : Bool) : State :=
  { admins.modPort 0 (fun r => { r with transmitter := if busy then some (.batch true [resetRecord]) else none }) with deviceReset := .announced 0 }

/-- Port 2 RESETTING with its last operation, a write, taken, and port 0 waiting for the reset. -/
def awaited (l : Link) : State :=
  withEngine 0 { Engine.idle with state := .memory, current := some ⟨9, .portReset 2⟩ }
    (taking .near { leftOver with kind := .write [7] } (resetting l))

/-- Port 1's request queue full, n records in its completion queue. -/
def full (n : Nat) : State :=
  up.modPort 1 fun r => { r with requestQueue := List.replicate 8 ⟨0x3A, 0, []⟩, completionQueue := List.replicate n (.leaseLost 0) }

/-- The same with port 1's transmitter busy, so that nothing more happens. -/
def stuck (n : Nat) : State := sending 1 (full n)

/-- A frame with a good check and a wrong length field. -/
def badLength : List Byte := [0x20, 1, 0, 2, 3] ++ beBytes 2 (frameCheck [0x20, 1, 0, 2, 3]).toNat

/-- A port with a frame in its slot and another pending. -/
def replyWaits : PortRec :=
  { up.port 1 with
    dataSlot := some ⟨{ tag := 1, status := .ok }, false⟩
    engine := { Engine.idle with state := .replyWait, pendingFrame := some ⟨{ tag := 2, status := .rights }, false⟩ } }

/-- Port 1 owns locks 0 to 3. -/
def fourLocks : State := owned 3 1 none (owned 2 1 none (owned 1 1 none (owned 0 1 none up)))

/-- Lock 5 owned by port 1, port 0 pending under tag 44: the last port in ring order. -/
def lastWaits : State := waits 5 0 44 (owned 5 1 none up)

/-- Lock 5 owned by port 1, ports 2 and 0 pending. -/
def nextWaits : State := waits 5 2 43 lastWaits

/-- A PENDING fence of port 0 over port 1, which is sending. -/
def fencing : State := { sending 1 up with fence := .pending 0 77 2 }

/-- A HELD fence of port 0 over port 1. -/
def fenceHeld : State := { up with fence := .held 0 77 2 }

/-- The same with two requests waiting at port 1, fenced. -/
def fencedWaits : State := fenceHeld.modPort 1 fun r => { r with fenced := true, requestQueue := [⟨0x20, 4, [6]⟩, ⟨0x3A, 5, []⟩] }

/-- A request waits at each of some ports: a second DEVICE_RESET at port 0 (R188), a LOCK at another. -/
def queued (ports : List Port) (s : State) : State :=
  s.mapPorts fun p r => if p ∈ ports then { r with requestQueue := [if p = 0 then ⟨0x4F, 91, []⟩ else ⟨0x20, 4, [6]⟩] } else r

/-- Port 0's device reset announced, its batch being sent, with requests waiting at port 0 and at port 2, which is in MEMORY. -/
def queuedAnnounced : State :=
  queued [0, 2] { inMemory.modPort 0 (fun r => { r with transmitter := some (.batch true [resetRecord]) }) with deviceReset := .announced 0 }

/-- Port 2 idle and fenced, with a request waiting at it. -/
def queuedFenced : State := queued [2] { admins.modPort 2 (fun r => { r with fenced := true }) with fence := .held 5 77 4 }

/-- A port reset and the beginning of a device reset discard the waiting requests with no reply, still counted as accepted (R162, R171, R188). -/
theorem test_waiting_requests_are_discarded :
    after (exec (.portReset 0 9 2) (queued [2] (inMemory.modPort 2 fun r => { r with requestsAccepted := 2 }))) (fun t =>
        (t.port 2).requestQueue.isEmpty && (t.port 2).requestsAccepted == 2 && (t.port 2).outgoing.isEmpty) = true
      ∧ after (exec (.transmissionComplete 0) (queuedAnnounced.modPort 2 fun r => { r with requestsAccepted := 2 })) (fun t =>
        t.draining && (t.port 0).requestQueue.isEmpty && (t.port 2).requestQueue.isEmpty && (t.port 2).requestsAccepted == 2
          && (t.port 0).outgoing.isEmpty && (t.port 2).outgoing.isEmpty) = true := by decide +kernel

theorem witness_LinkUpActivatesAPort :
    (up.Quiet ∧ (up.port 0).link = .up)
      ∧ ((resetting .down).Quiet ∧ ((resetting .down).port 2).link = .down ∧ ((resetting .down).port 2).state = .resetting)
      ∧ (State.reset.Quiet ∧ (State.reset.port 3).link = .down ∧ (State.reset.port 3).state = .down ∧ (State.reset.port 3).completionQueue = []
        ∧ (State.reset.port 3).dataSlot = none)
      ∧ (drainingState.power = .operating ∧ drainingState.draining = true ∧ drainingState.AtRest ∧ (drainingState.port 0).link = .up)
      ∧ ((drainingState.modPort 7 fun r => { r with link := .down }).AtRest
        ∧ ((drainingState.modPort 7 fun r => { r with link := .down }).port 7).link = .down) := by decide +kernel

theorem witness_LinkDownResetsAPort :
    (up.Quiet ∧ up.LockLaw ∧ (up.port 7).link = .up ∧ up.deviceReset ≠ .announced 7 ∧ (up.port 7).state = .active)
      ∧ (inMemory.Quiet ∧ inMemory.LockLaw ∧ (inMemory.port 2).link = .up ∧ inMemory.deviceReset ≠ .announced 2 ∧ (inMemory.port 2).state = .active
        ∧ inMemory.hasOp (.engine 2) = true)
      ∧ ((resetting .up).Quiet ∧ (resetting .up).LockLaw ∧ ((resetting .up).port 2).link = .up ∧ (resetting .up).deviceReset ≠ .announced 2
        ∧ ((resetting .up).port 2).state = .resetting)
      ∧ (announced.Quiet ∧ (announced.port 0).link = .up ∧ announced.deviceReset = .announced 0 ∧ (announced.port 0).state = .active
        ∧ announced.nearArbiter.taken = [] ∧ announced.poolArbiter.taken = [] ∧ ∀ q : Port, q ≠ 0 → (announced.port q).transmitter = none)
      ∧ ((sending 5 announced).Quiet ∧ ∃ q : Port, q ≠ 0 ∧ ((sending 5 announced).port q).transmitter ≠ none)
      ∧ ((queued [2] inMemory).Resting ∧ (queued [2] inMemory).OthersHaveNone 2 ∧ (queued [2] inMemory).LockLaw
        ∧ ((queued [2] inMemory).port 2).requestQueue ≠ [] ∧ ((queued [2] inMemory).port 2).state = .active)
      ∧ (queuedFenced.Resting ∧ queuedFenced.OthersHaveNone 2 ∧ (queuedFenced.port 2).requestQueue ≠ [] ∧ queuedFenced.hasOp (.engine 2) = false)
      ∧ (queuedAnnounced.Resting ∧ queuedAnnounced.deviceReset = .announced 0 ∧ (queuedAnnounced.port 0).state = .active
        ∧ (queuedAnnounced.port 0).requestQueue ≠ [] ∧ (queuedAnnounced.port 2).requestQueue ≠ [] ∧ queuedAnnounced.nearArbiter.taken ≠ [])
      ∧ (State.reset.AtRest ∧ (State.reset.port 0).link = .down)
      ∧ (drainingState.AtRest ∧ (drainingState.port 2).link = .up
        ∧ (drainingState.modPort 2 fun r => { r with transmitter := none }).Outstanding) := by decide +kernel

/-- A port that owns the fence, and one that does not (State.PortCleared). -/
theorem witness_OwnsFence : fenceHeld.Quiet ∧ fenceHeld.LockLaw ∧ fenceHeld.OwnsFence 0 ∧ ¬fenceHeld.OwnsFence 1 :=
  ⟨by decide +kernel, by decide +kernel, rfl, (by decide : ¬(0 : Port) = 1)⟩

/-- A lock that passes to a pending port at its owner's reset, one that becomes free, and one on which the reset port was pending (State.LocksPassed). -/
theorem witness_LocksPassed :
    (nextWaits.Quiet ∧ nextWaits.LockLaw ∧ (nextWaits.lock 5).owner = some 1 ∧ (nextWaits.lock 5).nextAfter 1 1 43)
      ∧ (lastWaits.Quiet ∧ lastWaits.LockLaw ∧ (lastWaits.lock 5).nextAfter 1 7 44)
      ∧ (fourLocks.Quiet ∧ fourLocks.LockLaw ∧ (fourLocks.lock 3).owner = some 1 ∧ ∀ q : Port, (fourLocks.lock 3).pending[q] = none)
      ∧ ((lastWaits.lock 5).owner ≠ some 0 ∧ (lastWaits.lock 5).pending[(0 : Port)] = some 44) := by decide +kernel

theorem witness_BatchAckMakesTheStateNormal :
    (up.Quiet ∧ (up.port 3).state = .active ∧ (up.port 3).wake = .normal) := by decide +kernel

theorem witness_TransmissionCompleteFreesTheTransmitter :
    ((sending 1 up).Quiet ∧ ((sending 1 up).port 1).transmitter = some (.data { tag := 1, status := .ok })
        ∧ ¬((OutFrame.data { tag := 1, status := .ok }).announcesReset = true ∧ (sending 1 up).deviceReset = .announced 1))
      ∧ (up.Quiet ∧ (up.port 1).transmitter = none) := by decide +kernel

theorem witness_RequestFramesAreRequests :
    ((Instr.malformedRequest 5 0x77 1 (List.replicate 272 0)).request = some (5, ⟨0x77, 1, List.replicate 272 0⟩)
        ∧ (List.replicate 272 (0 : Byte)).length ≤ 272) := by decide +kernel

theorem witness_ReceiverRules :
    (up.Quiet ∧ (up.port 1).state = .active ∧ ([1, 2, 3, 4, 5] : List Byte).length < 6)
      ∧ (frameCheck [0x20, 1, 0, 1, 3] ≠ BitVec.ofNat 16 (payloadField [0x20, 1, 0, 1, 3, 0, 0] 5 2))
      ∧ (payloadField badLength 2 2 ≠ badLength.length - 6)
      ∧ ((frameBytes 0x77 1 (List.replicate 273 0)).length - 6 > 272)
      ∧ (inMemory.power = .operating ∧ inMemory.draining = false ∧ inMemory.AtRest ∧ (inMemory.port 2).state = .active
        ∧ (inMemory.port 2).engine.state ≠ .idle ∧ (inMemory.port 2).requestQueue.length < 8)
      ∧ ((stuck 23).power = .operating ∧ (stuck 23).draining = false ∧ (stuck 23).AtRest ∧ ((stuck 23).port 1).state = .active
        ∧ ((stuck 23).port 1).requestQueue.length = 8 ∧ ((stuck 23).port 1).completionQueue.length < 24 ∧ ((stuck 23).port 1).transmitter ≠ none)
      ∧ ((stuck 24).AtRest ∧ ((stuck 24).port 1).state = .active ∧ ((stuck 24).port 1).requestQueue.length = 8
        ∧ 24 ≤ ((stuck 24).port 1).completionQueue.length
        ∧ ∀ q : Port, ((stuck 24).port q).transmitter = none → ((stuck 24).port q).engine.pendingFrame = none)
      ∧ (drainingState.draining = true ∧ up.draining = false ∧ (up.latch .overrun).isSet = false
        ∧ ((up.setLatch .overrun { Latch.clear with isSet := true, count := 65535 }).latch .overrun).isSet = true) := by decide +kernel

/-- A request comes by its row, or by a frame of its bytes. -/
theorem witness_BringsRequest :
    BringsRequest (.unfence 2 1) 2 ⟨0x3A, 1, []⟩ ∧ BringsRequest (.requestAdmission 1 (frameBytes 0x77 7 [1, 2, 3])) 1 ⟨0x77, 7, [1, 2, 3]⟩ :=
  ⟨⟨by decide, .inl ⟨rfl, by decide⟩⟩,
    by decide, .inr ⟨_, rfl, by decide +kernel, by decide +kernel, by decide +kernel, by decide +kernel, by decide +kernel⟩⟩

/-- Port 0 gets the ALERT record of a latch that sets, port 1, a USER port, does not. -/
theorem witness_Alerted : (up.port 0).Alerted .overrun ∧ ¬(up.port 1).Alerted .overrun :=
  ⟨⟨by decide +kernel, by decide +kernel, fun _ _ _ => by rw [show (up.port 0).completionQueue = [] from by decide +kernel]; exact List.not_mem_nil⟩,
    fun h => absurd h.2.1 (by decide +kernel)⟩

theorem witness_ClosedPortsDiscardFrames :
    (State.reset.power = .operating ∧ State.reset.AtRest ∧ (State.reset.port 0).state ≠ .active)
      ∧ (drainingState.power = .operating ∧ drainingState.AtRest ∧ drainingState.draining = true)
      ∧ ((Instr.unfence 0 1).request = some (0, ⟨0x3A, 1, []⟩)) := by decide +kernel

theorem witness_MalformedRequestsAreAnswered :
    (up.Ready 1 ∧ readOperands ⟨0, 5, List.replicate 272 0⟩ = none ∧ (List.replicate 272 (0 : Byte)).length ≤ 272)
      ∧ (readOperands ⟨0x10, 5, []⟩ = none ∧ (0x10 : Byte) ∈ ([0x10, 0x12, 0x18, 0x23, 0x41] : List Byte))
      ∧ (readOperands ⟨0x50, 5, [0]⟩ = none ∧ ¬((0x50 : Byte) = 0x50 ∧ ([0] : List Byte) = [])) := by decide +kernel

theorem witness_UserPortsAreNotPermitted :
    (up.Ready 1 ∧ (up.port 1).cls = .user ∧ (Instr.counters 1 5 0).request = some (1, ⟨0x41, 5, [0]⟩)
        ∧ readOperands ⟨0x41, 5, [0]⟩ = some (.counters 0) ∧ (Operands.counters 0).administrative = true)
      ∧ ((Instr.deviceReset 1 5).request = some (1, ⟨0x4F, 5, []⟩) ∧ readOperands ⟨0x4F, 5, []⟩ = some .deviceReset
        ∧ Operands.deviceReset.administrative = true) := by decide +kernel

theorem witness_LockDecision :
    ((owned 3 1 none up).Ready 1 ∧ ((owned 3 1 none up).lock 3).owner = some 1)
      ∧ (lastWaits.Ready 0 ∧ (lastWaits.lock 5).pending[(0 : Port)] ≠ none)
      ∧ (fourLocks.Ready 1 ∧ (fourLocks.lock 31).owner ≠ some 1 ∧ (fourLocks.lock 31).pending[(1 : Port)] = none ∧ 4 ≤ fourLocks.holdings 1)
      ∧ (up.Ready 1 ∧ (up.lock 0).owner = none ∧ (up.lock 0).pending[(1 : Port)] = none ∧ up.holdings 1 < 4)
      ∧ ((owned 3 1 none up).Ready 0 ∧ ((owned 3 1 none up).lock 3).owner = some 1 ∧ (1 : Port) ≠ 0
        ∧ ((owned 3 1 none up).lock 3).pending[(0 : Port)] = none ∧ (owned 3 1 none up).holdings 0 < 4)
      ∧ 31 < (32 : Byte).toNat := by decide +kernel

theorem witness_UnlockPassesTheLockOn :
    (up.Ready 1 ∧ (up.lock 5).owner ≠ some 1)
      ∧ ((owned 5 1 none up).Ready 1 ∧ ((owned 5 1 none up).lock 5).owner = some 1 ∧ ∀ q : Port, ((owned 5 1 none up).lock 5).pending[q] = none)
      ∧ (lastWaits.Ready 1 ∧ (lastWaits.lock 5).owner = some 1 ∧ (lastWaits.lock 5).nextAfter 1 7 44)
      ∧ (nextWaits.Ready 1 ∧ (nextWaits.lock 5).owner = some 1 ∧ (nextWaits.lock 5).nextAfter 1 1 43)
      ∧ 31 < (255 : Byte).toNat := by decide +kernel

theorem witness_LockWithdrawLeavesTheSet :
    (lastWaits.Ready 0 ∧ (lastWaits.lock 5).pending[(0 : Port)] ≠ none)
      ∧ (up.Ready 0 ∧ (up.lock 5).pending[(0 : Port)] = none)
      ∧ 31 < (32 : Byte).toNat := by decide +kernel

theorem witness_LockQueryReports :
    (lastWaits.Ready 3 ∧ (∀ q : Port, (1#8).getLsbD q.val = (lastWaits.lock 5).pending[q].isSome) ∧ (lastWaits.lock 5).counter = none)
      ∧ ((owned 5 1 (some 1001) up).Ready 3 ∧ ((owned 5 1 (some 1001) up).lock 5).counter = some 1001 ∧ (2 : BitVec 16) = BitVec.ofNat 16 ((1001 + 999) / 1000)
        ∧ ∀ q : Port, (0#8).getLsbD q.val = ((owned 5 1 (some 1001) up).lock 5).pending[q].isSome)
      ∧ 31 < (32 : Byte).toNat := by decide +kernel

theorem witness_SetLockGivesTheSetting :
    (up.Ready 1 ∧ (up.port 1).cls = .user)
      ∧ (up.Ready 0 ∧ (up.port 0).cls = .administrative ∧ 60000 < (60001 : BitVec 16).toNat)
      ∧ ((60000 : BitVec 16).toNat ≤ 60000)
      ∧ 31 < (32 : Byte).toNat := by decide +kernel

theorem witness_SetAnchorReplacesAndPurges :
    (up.Ready 0 ∧ (up.port 0).cls = .administrative)
      ∧ 7 < (8 : Byte).toNat
      ∧ 512 < (513 : BitVec 16).toNat
      ∧ (0x2004 : BitVec 32).toNat % 8 ≠ 0
      ∧ 2 ^ 32 < (0xFFFFFFF8 : BitVec 32).toNat + 8 * (2 : BitVec 16).toNat
      ∧ ((7 : Byte).toNat < 8 ∧ (512 : BitVec 16).toNat ≤ 512 ∧ (0xFFFFF000 : BitVec 32).toNat % 8 = 0
        ∧ (0xFFFFF000 : BitVec 32).toNat + 8 * (512 : BitVec 16).toNat ≤ 2 ^ 32) := by decide +kernel

theorem witness_PurgeAnswersTheNumber_scope : ∀ k : Key, (k.space == 1 && k.segment == 511) = true ↔
    ((2 : Byte).toNat = 0 ∨ k.space.toNat = (1 : Byte).toNat) ∧ ((2 : Byte).toNat ≤ 1 ∨ k.segment.toNat = (511 : BitVec 16).toNat)
      ∧ ((2 : Byte).toNat ≤ 2 ∨ k.page.toNat = (0xFFFF : BitVec 16).toNat) := by
  intro k
  simp [← BitVec.toNat_inj]

theorem witness_PurgeAnswersTheNumber :
    (up.Ready 0 ∧ (up.port 0).cls = .administrative ∧ 3 < (4 : Byte).toNat)
      ∧ (1 ≤ (1 : Byte).toNat ∧ 7 < (8 : Byte).toNat)
      ∧ (2 ≤ (2 : Byte).toNat ∧ 511 < (512 : BitVec 16).toNat)
      ∧ ((3 : Byte).toNat = 3 ∧ 255 < (256 : BitVec 16).toNat)
      ∧ ((2 : Byte).toNat ≤ 3 ∧ (1 : Byte).toNat ≤ 7 ∧ (511 : BitVec 16).toNat ≤ 511) := by decide +kernel

theorem witness_SetWindowReplacesTheFields :
    (up.Ready 0 ∧ (up.port 0).cls = .administrative ∧ 7 < (8 : Byte).toNat ∧ 2 < (3 : Byte).toNat)
      ∧ ((2 : Byte).toNat = 2 ∧ (0 : BitVec 16).toNat ≤ (1 : BitVec 16).toNat ∧ 65535 < (65535 : BitVec 16).toNat + ((1 : BitVec 16).toNat - (0 : BitVec 16).toNat))
      ∧ ((7 : Byte).toNat < 8 ∧ windowKindOfCode 2 = some .relocate
        ∧ ¬(65535 < (65534 : BitVec 16).toNat + ((1 : BitVec 16).toNat - (0 : BitVec 16).toNat))) := by decide +kernel

theorem witness_SetPoolBeginsTheFill :
    (up.Ready 0 ∧ (up.port 0).cls = .administrative ∧ up.pool.state = .unset ∧ 4096 < (4097 : BitVec 16).toNat ∧ (0 : BitVec 16).toNat = 0)
      ∧ ((pooled up).Ready 0 ∧ (pooled up).pool.state ≠ .unset)
      ∧ (1 ≤ (4096 : BitVec 16).toNat ∧ (4096 : BitVec 16).toNat ≤ 4096) := by decide +kernel

/-- A SET_PORT at its own port, two records in its queue: the batch that the new C makes due holds its DONE record too (log 10). -/
theorem test_setPort_own_batch :
    after (exec (.setPort 0 9 0 1 2 8 5) (up.modPort 0 fun r => { r with countThreshold := 4, completionQueue := List.replicate 2 (.done 3 .ok none none none none .plain) }))
      (fun t => (t.port 0).transmitter == some (.batch true (List.replicate 2 (.done 3 .ok none none none none .plain) ++ [.done 9 .ok none none none none .plain]))
        && (t.port 0).timer == .running 5) = true := by decide +kernel

theorem witness_SetPortReplacesTheParameters :
    (up.Ready 0 ∧ (up.port 0).cls = .administrative ∧ 7 < (8 : Byte).toNat ∧ 1 < (2 : Byte).toNat ∧ 16 < (17 : Byte).toNat ∧ 1023 < (1024 : BitVec 16).toNat)
      ∧ ((0 : Byte).toNat = (0 : Port).val ∧ (16 : Byte).toNat ≤ 16 ∧ (1023 : BitVec 16).toNat ≤ 1023 ∧ ∀ q : Port, q ≠ 0 → (up.port q).cls = .user)
      ∧ ((1 : Byte).toNat = (1 : Port).val ∧ classOfCode 0 = some .user ∧ ∃ q : Port, q ≠ 1 ∧ (up.port q).cls = .administrative) := by decide +kernel

theorem witness_FenceAndIdleTest :
    (up.Ready 0 ∧ (up.port 0).cls = .administrative ∧ up.fence = .none)
      ∧ ((0x81 : BitVec 8).getLsbD (0 : Port).val = true)
      ∧ ((0xFE : BitVec 8) ≠ 0 ∧ (0xFE : BitVec 8).getLsbD (0 : Port).val = false)
      ∧ (fenceHeld.Ready 0 ∧ fenceHeld.fence ≠ .none)
      ∧ (fencing.fence = .pending 0 77 2 ∧ ∀ q : Port, (2 : BitVec 8).getLsbD q.val = true →
        (fencing.port q).state ≠ .down ∧ (fencing.port q).transmitter ≠ none)
      ∧ (∀ q : Port, (2 : BitVec 8).getLsbD q.val = true → (up.port q).state = .active ∧ (up.port q).engine.state = .idle
        ∧ (up.port q).completionQueue = [] ∧ (up.port q).dataSlot = none ∧ (up.port q).transmitter = none) := by decide +kernel

theorem witness_UnfenceEndsTheFence :
    (up.Ready 0 ∧ (up.port 0).cls = .administrative ∧ up.fence = .none)
      ∧ (fenceHeld.Ready 0 ∧ fenceHeld.fence = .held 0 77 2)
      ∧ (fencing.Ready 0 ∧ (fencing.port 0).cls = .administrative ∧ fencing.fence = .pending 0 77 2)
      ∧ ((fencedWaits.withoutQueue 1).Ready 0 ∧ (fencedWaits.port 1).fenced = true ∧ (fencedWaits.port 1).state = .active
        ∧ (fencedWaits.port 1).engine.state = .idle ∧ fencedWaits.deviceReset ≠ .announced 1 ∧ (fencedWaits.port 1).completionQueue.length < 15
        ∧ (fencedWaits.port 1).requestQueue = [⟨0x20, 4, [6]⟩, ⟨0x3A, 5, []⟩] ∧ fencedWaits.fence ≠ .none)
      ∧ (fencedWaits.unfenced.canTake 1 = true ∧ fencedWaits.canTake 1 = false) := by decide +kernel

/-- Port 0's device reset announced; port 2, of another PORT_RESET, idle or in MEMORY. -/
def announcedElsewhere (busy : Bool) : State := { if busy then inMemory else admins with deviceReset := .announced 0 }

theorem witness_PortResetClearsThePort :
    (up.Ready 0 ∧ up.LockLaw ∧ (up.port 0).cls = .administrative ∧ 7 < (8 : Byte).toNat ∧ (0 : Byte).toNat = (0 : Port).val)
      ∧ ((up.modPort 2 fun r => { r with link := .down, state := .down }).Ready 0 ∧ (2 : Byte).toNat = (2 : Port).val)
      ∧ ((resetting .up).Ready 0 ∧ (resetting .up).LockLaw ∧ ((resetting .up).port 0).cls = .administrative ∧ ((resetting .up).port 2).state = .resetting)
      ∧ (up.deviceReset = .none ∧ (up.port 2).state = .active ∧ up.hasOp (.engine 2) = false)
      ∧ (inMemory.Ready 0 ∧ inMemory.LockLaw ∧ (inMemory.port 2).state = .active ∧ inMemory.deviceReset = .none ∧ inMemory.hasOp (.engine 2) = true)
      ∧ (∀ b : Bool, (announcedElsewhere b).Ready 1 ∧ (announcedElsewhere b).LockLaw ∧ ((announcedElsewhere b).port 1).cls = .administrative
        ∧ ((announcedElsewhere b).port 2).state = .active ∧ (announcedElsewhere b).deviceReset = .announced 0
        ∧ (announcedElsewhere b).deviceReset ≠ .announced 2 ∧ (announcedElsewhere b).hasOp (.engine 2) = b)
      ∧ ((announcedBy0 true).Ready 1 ∧ (announcedBy0 true).LockLaw ∧ ((announcedBy0 true).port 1).cls = .administrative
        ∧ ((announcedBy0 true).port 0).state = .active ∧ (announcedBy0 true).deviceReset = .announced 0 ∧ (announcedBy0 true).Outstanding
        ∧ (announcedBy0 true).hasOp (.engine 1) = false)
      ∧ ((announcedBy0 false).Ready 1 ∧ ((announcedBy0 false).port 0).state = .active ∧ ¬(announcedBy0 false).Outstanding)
      ∧ (∀ s ∈ [queued [2] inMemory, queuedFenced], s.Resting ∧ s.Able 0 ∧ (s.port 0).cls = .administrative ∧ s.OthersHaveNone 2 ∧ s.LockLaw
        ∧ (s.port 2).state = .active ∧ (s.port 2).requestQueue ≠ [] ∧ s.deviceReset = .none)
      ∧ (∀ s ∈ [queuedAnnounced, queued [0] (announcedBy0 false)], s.Resting ∧ s.Able 1 ∧ (s.port 1).cls = .administrative
        ∧ (s.port 0).state = .active ∧ (s.port 0).requestQueue ≠ [] ∧ s.deviceReset = .announced 0)
      ∧ (queuedAnnounced.Outstanding ∧ ¬(queued [0] (announcedBy0 false)).Outstanding)
      ∧ (∀ l ∈ [Link.up, Link.down], (awaited l).Quiet ∧ (awaited l).MemoryCanonical ∧ ((awaited l).port 2).state = .resetting
        ∧ (awaited l).CanComplete .near { leftOver with kind := .write [7] }
        ∧ ((awaited l).leaveArbiter .near { leftOver with kind := .write [7] }).hasOp (.engine 2) = false
        ∧ ((awaited l).port 0).engine.state = .memory ∧ ((awaited l).port 0).engine.current = some ⟨9, .portReset 2⟩) := by decide +kernel

/-- A PORT_RESET whose sender is granted a lock that the reset frees: its GRANT record stands before its DONE record (R131, R172; log 33). -/
theorem test_grant_before_done :
    after (exec (.portReset 0 9 1) (sending 0 lastWaits)) (fun t => (t.port 0).completionQueue ==
      [.grant 5 44, .done 9 .ok none none none none .plain]) = true := by decide +kernel

theorem witness_SetTimebaseRestartsThePrescaler :
    (up.Ready 1 ∧ (up.port 1).cls = .user)
      ∧ (up.Ready 0 ∧ (up.port 0).cls = .administrative ∧ 1023 < (1024 : BitVec 16).toNat ∧ (1023 : BitVec 16).toNat ≤ 1023) := by decide +kernel

theorem witness_CountersReadAndClear :
    (up.Ready 0 ∧ (up.port 0).cls = .administrative ∧ 1 < (2 : Byte).toNat) := by decide +kernel

theorem witness_AlertClearReadsAndClears :
    (up.Ready 1 ∧ (up.port 1).cls = .user)
      ∧ (up.Ready 0 ∧ (up.port 0).cls = .administrative ∧ (0 : Byte).toNat = 0 ∧ 6 < (7 : Byte).toNat)
      ∧ ((6 : Byte) = AlertCause.linkLost.code ∧ (1 : Byte) = AlertCause.tableError.code) := by decide +kernel

theorem witness_DeviceResetIsAnnounced :
    (up.Ready 0 ∧ (up.port 0).cls = .administrative ∧ up.deviceReset = .none)
      ∧ (({ admins with deviceReset := .announced 0 } : State).Ready 1 ∧ (admins.port 1).cls = .administrative)
      ∧ (announced.deviceReset = .announced 0) := by decide +kernel

/-- Port 0's device reset announced, port 5 sending: port 1 waits on the PORT_RESET of port 2, which is RESETTING; ports 3, 4 and 6 stand in TRANSLATE, POOL_WAIT and REPLY_WAIT. -/
def engaged : State :=
  let s : State := taking .near leftOver (sending 5 (announced.modPort 2 fun r => { r with state := .resetting }))
  let s := withEngine 3 { working (.read (at123 0) 4 false) [⟨(at123 0).setWidth 34, 4⟩] false with state := .translate } s
  let s := withEngine 4 { working (.physRead 0x10000 1) [⟨0x10000, 1⟩] false with state := .poolWait } s
  let s := (withEngine 6 replyWaits.engine s).modPort 6 fun r => { r with dataSlot := replyWaits.dataSlot, transmitter := some (.data { tag := 3, status := .ok }) }
  withEngine 1 { Engine.idle with state := .memory, current := some ⟨9, .portReset 2⟩ } s

/-- While the part drains every engine stands where it was (R86), but that the PORT_RESET is discarded (R185; log 21); a queue and a data slot are empty. -/
theorem test_engines_stand :
    after (exec (.transmissionComplete 0) engaged) (fun t => t.draining
      && [3, 4, 6].all (fun q => (t.port q).engine == (engaged.port q).engine) && (t.port 6).dataSlot.isNone
      && (t.port 1).engine == { Engine.idle with state := .memory }) = true := by decide +kernel

/-- Only when the device reset ends are the engines IDLE (R86, R187). -/
theorem test_engines_idle_at_the_end :
    let s : State := withEngine 3 { working (.read (at123 0) 4 false) [⟨(at123 0).setWidth 34, 4⟩] false with state := .translate } (draining up)
    after (exec (.transmissionComplete 5) (sending 5 s)) (fun t => t.deviceReset == .none && (t.port 3).engine == Engine.idle) = true := by
  decide +kernel

theorem witness_DeviceResetBegins :
    (announced.Quiet ∧ announced.deviceReset = .announced 0 ∧ (announced.port 0).transmitter = some (.batch true [resetRecord])
        ∧ (OutFrame.batch true [resetRecord]).announcesReset = true)
      ∧ (announced.nearArbiter.taken = [] ∧ announced.poolArbiter.taken = [] ∧ ∀ q : Port, q ≠ 0 → (announced.port q).transmitter = none)
      ∧ (queuedAnnounced.Resting ∧ queuedAnnounced.deviceReset = .announced 0
        ∧ (queuedAnnounced.port 0).transmitter = some (.batch true [resetRecord]) ∧ queuedAnnounced.nearArbiter.taken ≠ [])
      ∧ ((queued [0] announced).Resting ∧ (queued [0] announced).nearArbiter.taken = [] ∧ (queued [0] announced).poolArbiter.taken = []
        ∧ ((queued [0] announced).port 0).requestQueue ≠ [] ∧ ∀ q : Port, q ≠ 0 → ((queued [0] announced).port q).transmitter = none)
      ∧ (engaged.Quiet ∧ engaged.deviceReset = .announced 0 ∧ engaged.nearArbiter.taken ≠ []
        ∧ (engaged.port 1).engine.current = some ⟨9, .portReset 2⟩ ∧ (engaged.port 3).engine.state = .translate)
      ∧ ((sending 5 announced).Quiet ∧ (sending 5 announced).deviceReset = .announced 0 ∧ ∃ q : Port, q ≠ 0 ∧ ((sending 5 announced).port q).transmitter ≠ none)
      ∧ ((taking .near leftOver (withEngine 2 (working (.physRead 0 1) [⟨0, 1⟩] false) announced)).Quiet
        ∧ (taking .near leftOver announced).nearArbiter.taken ≠ []
        ∧ ((taking .near leftOver (withEngine 2 (working (.physRead 0 1) [⟨0, 1⟩] false) announced)).port 2).engine.state = .memory)
      ∧ ((sending 5 drainingState).power = .operating ∧ (sending 5 drainingState).draining = true ∧ (sending 5 drainingState).AtRest
        ∧ ((sending 5 drainingState).port 5).transmitter ≠ none ∧ ((sending 5 drainingState).modPort 5 fun r => { r with transmitter := none }).Outstanding)
      ∧ ((sending 5 (draining up)).AtRest ∧ ((sending 5 (draining up)).port 5).link = .up
        ∧ ¬((sending 5 (draining up)).modPort 5 fun r => { r with transmitter := none }).Outstanding)
      ∧ (drainingState.MemoryCanonical ∧ drainingState.CanComplete .near leftOver ∧ ¬(drainingState.leaveArbiter .near leftOver).Outstanding)
      ∧ ((sending 5 drainingState).MemoryCanonical ∧ (sending 5 drainingState).CanComplete .near leftOver
        ∧ ((sending 5 drainingState).leaveArbiter .near leftOver).Outstanding) := by decide +kernel

/-- The command that completes an operation: an engine's, a slot's descriptor read, a slot's map update. -/
theorem witness_CompletedBy :
    drainingState.CompletedBy leftOver (.memoryOperationComplete 2)
      ∧ (draining (walkIn (walking .descriptor false) .near descriptorRead)).CompletedBy descriptorRead (.descriptorReadComplete 0)
      ∧ (draining (walkIn (walking .map false) .near (mapOp true))).CompletedBy (mapOp true) (.mapUpdateComplete 0)
      ∧ (draining (walkIn (walking .map false) .near (mapOp true))).CanComplete .near (mapOp true) :=
  ⟨rfl, ⟨rfl, by decide +kernel⟩, ⟨rfl, by decide +kernel⟩, by decide +kernel⟩

/-! #### Access requests -/

/-- Port 1's READ of the first bytes of a page, its request. -/
def aRead (len : Nat) : Operands := .read (at123 0) (BitVec.ofNat 16 len) false

/-- Ways of the cache set of the key 1/2/3 that hold other keys: the space flips bit 4 of the set index. -/
def otherEntry (page : BitVec 8) (segment : BitVec 9) : CacheEntry := ⟨⟨1, segment, page⟩, fullAccess 0 none true⟩

/-- Two windows: 0 excludes everything from 1 MiB on, 1 protects the near store's 64 KiB. -/
def windowed : State :=
  { cached (fullAccess 64 none true) with
    windows := (anchored.windows.set 0 { base := 16, limit := 65535, kind := .exclude, target := 0 }).set 1
      { base := 0, limit := 0, kind := .protect, target := 0 } }

/-- Windows 2 and 5 move 64 KiB at 16 × 64 KiB, window 5 to beyond the pool top. -/
def moved : State :=
  { anchored with
    windows := (anchored.windows.set 2 { base := 16, limit := 17, kind := .relocate, target := 0 }).set 5
      { base := 32, limit := 33, kind := .relocate, target := 256 } }

/-- An operation of port 1's engine. -/
def portOp (kind : OpKind) (addr : Nat) : MemOp := { requester := .engine 1, kind, addr, discard := false }

/-- Port 1 in MEMORY with the second portion of a READ, its bytes read from the pool. -/
def readingSecond : State :=
  taking .external (portOp (.read 2) 0x100000)
    (withEngine 1 { working (aRead 4) [⟨(at123 16382).setWidth 34, 2⟩, ⟨(at123 16384).setWidth 34, 2⟩] true with readData := [1, 2] } anchored)

/-- Port 1 in MEMORY with a one-portion WRITE to the pool over a failed byte. -/
def writing : State :=
  taking .external (portOp (.write [5, 0]) 0x100000)
    (withEngine 1 (working (.write (at123 0) false [5, 0]) [⟨(at123 0).setWidth 34, 2⟩] false)
      { anchored with pool := { anchored.pool with cells := [(0x0FFFFF, 7), (0x100001, 9)], failed := [0x0FFFFF, 0x100001, 0x100002] } })

/-- Port 1 in MEMORY with the first portion of a PHYS_READ that crosses from the near store. -/
def crossing (second : LogicalAddress) : State :=
  taking .near (portOp (.read 1) 0x3FFF) (withEngine 1 (working (.physRead 0x3FFF 2) [⟨0x3FFF, 1⟩, ⟨second, 1⟩] false) anchored)

/-- Port 1 in MEMORY with the first portion of a request whose second begins at an address. -/
def firstOf (ops : Operands) (second : Portion) (s : State) : State :=
  taking .near (portOp (firstOperation ops ⟨0x3FFF, 1⟩) 0x3FFF)
    (withEngine 1 { working ops [⟨0x3FFF, 1⟩, second] false with translation := some (fullAccess 0 none true) } s)

/-- A READ and a WRITE whose second portions lie in the page 1/2/3. -/
def readInto : Operands := .read (at123 0 - 1) 3 false
def writeInto : Operands := .write (at123 0 - 1) true [1, 2, 3]
def inPage : Portion := ⟨(at123 0).setWidth 34, 2⟩

/-- The operations of slot 1 and of ports 2 and 7 wait at the near arbiter, whose pointer names port 2. -/
def threeWait (slots : List MemOp) : State :=
  { up with nearArbiter := { waiting := slots ++ [{ portOp (.read 1) 0 with requester := .engine 2 }, { portOp (.read 1) 4 with requester := .engine 7 }], taken := [], pointer := 2 } }

/-- The pool has taken port 3's write and port 1's read of 0x100000, in this order, at the same byte or not. -/
def behind (addr : Nat) : State :=
  (withEngine 1 (working (aRead 2) [⟨(at123 0).setWidth 34, 2⟩] false) anchored).setArbiter .external
    { waiting := [], pointer := 7
      taken := [{ requester := .engine 3, kind := .write [5], addr, discard := true }, portOp (.read 2) 0x100000] }

/-- Port 1 in MEMORY with a second portion that meets a failed byte. -/
def failingSecond : State :=
  taking .external (portOp (.read 2) 0x100002)
    (withEngine 1 { working (aRead 4) [⟨(at123 16382).setWidth 34, 2⟩, ⟨(at123 16384).setWidth 34, 2⟩] true with readData := [1, 2] }
      { anchored with pool := { anchored.pool with failed := [0x100003] } })

/-- Port 1 in MEMORY with a READ that meets two failed bytes, its result wanted or not. -/
def failing (discard : Bool) : State :=
  taking .external { portOp (.read 8) 0x100000 with discard }
    (withEngine 1 (working (aRead 8) [⟨(at123 0).setWidth 34, 8⟩] false)
      { anchored with pool := { anchored.pool with failed := [0x0FFFFF, 0x100003, 0x100007] } })

/-- Port 3's engine in TRANSLATE for the key 1/2/3. -/
def asking (s : State) : State :=
  withEngine 3 { working (.write (at123 0) false [1]) [⟨(at123 0).setWidth 34, 1⟩] false with state := .translate } s

/-- Four slots that walk other keys. -/
def allBusy : State := asking (anchored.mapSlots fun _ => { walking .descriptor false with key := ⟨0, 0, 0⟩, stale := true, waitingReady := true })

/-- A descriptor in the near store at 0x2010. -/
def described (bytes : List Byte) (w : WalkSlot) : State :=
  { walkIn w .near descriptorRead with near := (walkIn w .near descriptorRead).near.setBytes 0x2010 bytes }

/-- A descriptor read in the pool that meets a failed byte. -/
def descriptorFails : State :=
  { walkIn (walking .descriptor false) .external { descriptorRead with addr := 0x100000 } with
    pool := { anchored.pool with failed := [0x100007] } }

/-- A map entry in the near store at 0x300C. -/
def mapped (bytes : List Byte) (m : Bool) (w : WalkSlot) : State :=
  { walkIn w .near (mapOp m) with near := (walkIn w .near (mapOp m)).near.setBytes 0x300C bytes }

/-- Slot 0 walks for port 2, a WRITE that needs modified and joined in MAP. -/
def needing (bytes : List Byte) : State :=
  withEngine 2 { working (.write (at123 0) false [1, 2]) [⟨(at123 0).setWidth 34, 2⟩] false with state := .walkWait }
    (mapped bytes false { walking .map false with waiters := [⟨2, true⟩] })

/-- A map update in the pool that meets a failed byte. -/
def mapFails : State :=
  { walkIn (walking .map true) .external { mapOp true with addr := 0x100000 } with
    pool := { anchored.pool with failed := [0x100002] } }

theorem witness_AccessRangeAndPortions :
    (anchored.Ready 1 ∧ (Instr.probe 1 9 (2 ^ 34)).request = some (1, ⟨0x12, 9, [4, 0, 0, 0, 0]⟩)
        ∧ readOperands ⟨0x12, 9, [4, 0, 0, 0, 0]⟩ = some (.probe (2 ^ 34)) ∧ (Operands.probe (2 ^ 34)).portions = none)
      ∧ (Operands.read 5 0 false).portions = none ∧ (Operands.read 5 257 false).portions = none ∧ (Operands.read (2 ^ 34 - 255) 256 false).portions = none
      ∧ (Operands.write (2 ^ 34 - 1) false [1, 2]).portions = none ∧ (Operands.physRead 0xFFFFFFFF 2).portions = none
      ∧ (Operands.physWrite 0xFFFFFFFF [1, 2]).portions = none ∧ (anchored.port 1).cls = .administrative
      ∧ ((2 ^ 34 - 1 : BitVec 34).toNat + 1 ≤ 2 ^ 34 ∧ (16383 : BitVec 34).toNat % 16384 + 1 ≤ 16384 ∧ 16384 < (16383 : BitVec 34).toNat % 16384 + 2) := by decide +kernel

theorem witness_AnchorChecksAndMiss :
    (admins.Ready 1 ∧ (Instr.read 1 9 (at123 0) 256 0).request = some (1, ⟨0x10, 9, [0, 0x80, 0x80, 0xC0, 0, 1, 0, 0]⟩))
      ∧ readOperands ⟨0x10, 9, [0, 0x80, 0x80, 0xC0, 0, 1, 0, 0]⟩ = some (aRead 256)
      ∧ (aRead 256).isLogical = true ∧ (aRead 256).portions = some [⟨(at123 0).setWidth 34, 256⟩]
      ∧ (admins.anchor (keyOf ((at123 0).setWidth 34)).space).length = 0
      ∧ (({ anchored with anchors := anchored.anchors.set 1 ⟨0x2000, 64, 0xFD⟩ } : State).anchor 1).mask.getLsbD 1 = false
      ∧ (({ anchored with anchors := anchored.anchors.set 1 ⟨0x2000, 2, 0xFF⟩ } : State).anchor 1).length ≤ (keyOf ((at123 0).setWidth 34)).segment.toNat
      ∧ (anchored.Ready 1 ∧ (keyOf ((at123 0).setWidth 34)).segment.toNat < (anchored.anchor 1).length ∧ (anchored.anchor 1).mask.getLsbD 1 = true)
      ∧ anchored.Lacks key
      ∧ ((cached (fullAccess 0 none false)).Holds key false (fullAccess 0 none false) ∧ (Operands.write (at123 0) false [1]).translatesWrite = true) := by decide +kernel

theorem witness_HitsAreChecked :
    ((cached (fullAccess 64 (some 5) true)).Ready 1 ∧ (cached (fullAccess 64 (some 5) true)).Holds key false (fullAccess 64 (some 5) true)
        ∧ (keyOf ((at123 0).setWidth 34)) = key ∧ ((cached (fullAccess 64 (some 5) true)).lock 5).owner ≠ some 1)
      ∧ (((fullAccess 64 none true).rightsFor .user).permits false = false ∧ ((fullAccess 64 none true).rightsFor .administrative).permits true = true)
      ∧ ((owned 5 1 none (cached (fullAccess 64 (some 5) true))).Ready 1 ∧ ((owned 5 1 none (cached (fullAccess 64 (some 5) true))).lock 5).owner = some 1)
      ∧ (windowed.Ready 1 ∧ windowed.Holds key false (fullAccess 64 none true)
        ∧ windowed.decode ((fullAccess 64 none true).frame ++ offsetOf ((at123 0).setWidth 34)) .administrative = .refused)
      ∧ ((cached (fullAccess 3 none true)).decode ((3 : BitVec 18) ++ offsetOf ((at123 16383).setWidth 34)) .administrative = .near 0xFFFF)
      ∧ ((cached (fullAccess 4 none true)).decode ((4 : BitVec 18) ++ offsetOf ((at123 0).setWidth 34)) .administrative = .external 0x10000)
      ∧ ((cached (fullAccess 4 none true)).pool.state ≠ .initializing)
      ∧ ((filling (cached (fullAccess 4 none true))).Ready 1 ∧ (filling (cached (fullAccess 4 none true))).pool.state = .initializing) := by decide +kernel

theorem witness_PhysicalRequestsAreIssued :
    (anchored.Ready 1 ∧ (anchored.port 1).cls = .administrative ∧ (Instr.physRead 1 9 0xFFFF 2).request = some (1, ⟨0x18, 9, [0, 0, 255, 255, 0, 2]⟩))
      ∧ readOperands ⟨0x18, 9, [0, 0, 255, 255, 0, 2]⟩ = some (.physRead 0xFFFF 2)
      ∧ (Operands.physRead 0xFFFF 2).portions = some [⟨0xFFFF, 1⟩, ⟨0x10000, 1⟩]
      ∧ (Operands.physWrite 0x1000000 [1]).portions = some [⟨0x1000000, 1⟩]
      ∧ anchored.decode 0x1000000 .administrative = .refused
      ∧ anchored.decode 0xFFFF .administrative = .near 0xFFFF
      ∧ (anchored.decode 0x10000 .administrative = .external 0x10000 ∧ anchored.pool.state ≠ .initializing)
      ∧ ((filling anchored).Ready 1 ∧ (filling anchored).decode 0xFFFFFF .administrative = .external 0xFFFFFF ∧ (filling anchored).pool.state = .initializing) := by decide +kernel

theorem witness_arbiters :
    ((threeWait [slotOperation 1 (walking .descriptor false)]).Accepts .near
        ∧ ((threeWait [slotOperation 1 (walking .descriptor false)]).arbiter .near).waiting.find?
            (fun o => o.requester == (slotOperation 1 (walking .descriptor false)).requester) = some (slotOperation 1 (walking .descriptor false))
        ∧ ∀ j : SlotId, j < 1 → (threeWait [slotOperation 1 (walking .descriptor false)]).NoneWaits .near (.slot j))
      ∧ ((threeWait []).Accepts .near ∧ (∀ j : SlotId, (threeWait []).NoneWaits .near (.slot j))
        ∧ (∀ r : Port, comesFirst ((threeWait []).arbiter .near).pointer r 7 → (threeWait []).NoneWaits .near (.engine r))
        ∧ ((threeWait []).arbiter .near).waiting.find? (fun o => o.requester == Requester.engine 7) = some { portOp (.read 1) 4 with requester := .engine 7 })
      ∧ (¬(taking .near leftOver up).Accepts .near ∧ ¬(draining (threeWait [])).Accepts .near ∧ ¬(filling up).Accepts .external)
      ∧ (up.arbiter .external).waiting = [] := by decide +kernel

/-- The same with a request waiting at port 1. -/
def readWaits : State := readingSecond.modPort 1 fun r => { r with requestQueue := [⟨0x20, 4, [6]⟩] }

theorem witness_ReadsReturnTheBytes :
    (readingSecond.Quiet ∧ readingSecond.CanComplete .external (portOp (.read 2) 0x100000) ∧ readingSecond.readFailure .external 0x100000 2 = none)
      ∧ ((readingSecond.port 1).state = .active ∧ (readingSecond.port 1).engine.state = .memory ∧ (readingSecond.port 1).engine.current = some ⟨9, aRead 4⟩ ∧ (aRead 4).writeData = none
        ∧ (readingSecond.port 1).engine.second = true)
      ∧ ((readWaits.withoutQueue 1).Quiet ∧ readWaits.CanComplete .external (portOp (.read 2) 0x100000) ∧ readWaits.nearArbiter.waiting = []
        ∧ readWaits.poolArbiter.waiting = [] ∧ readWaits.fence = .none ∧ (readWaits.port 1).state = .active ∧ (readWaits.port 1).dataSlot = none
        ∧ (readWaits.port 1).fenced = false ∧ (readWaits.port 1).completionQueue.length < 16
        ∧ ∀ o ∈ (readWaits.leaveArbiter .external (portOp (.read 2) 0x100000)).nearArbiter.taken
            ++ (readWaits.leaveArbiter .external (portOp (.read 2) 0x100000)).poolArbiter.taken, o.requester ≠ .engine 1)
      ∧ ((behind 0x100002).Quiet ∧ (behind 0x100002).CanComplete .external (portOp (.read 2) 0x100000))
      ∧ ((behind 0x100001).power = .operating ∧ (behind 0x100001).AtRest ∧ (behind 0x100001).HeldBack .external (portOp (.read 2) 0x100000)) := by decide +kernel

theorem witness_WritesReachMemory :
    (writing.Quiet ∧ writing.MemoryCanonical ∧ writing.CanComplete .external (portOp (.write [5, 0]) 0x100000))
      ∧ ((writing.port 1).state = .active ∧ (writing.port 1).engine.state = .memory ∧ (writing.port 1).engine.current = some ⟨9, .write (at123 0) false [5, 0]⟩
        ∧ (Operands.write (at123 0) false [5, 0]).writeData ≠ none ∧ (writing.port 1).engine.portions.length ≠ 2) := by decide +kernel

theorem witness_SecondPortionFollows :
    ((crossing 0x1000000).Quiet ∧ (crossing 0x1000000).MemoryCanonical ∧ ((crossing 0x1000000).port 1).state = .active
        ∧ (crossing 0x1000000).CanComplete .near (portOp (.read 1) 0x3FFF) ∧ (crossing 0x1000000).readFailure .near 0x3FFF 1 = none)
      ∧ (((crossing 0x1000000).port 1).engine =
          { Engine.idle with state := .memory, current := some ⟨9, .physRead 0x3FFF 2⟩, portions := [⟨0x3FFF, 1⟩, ⟨0x1000000, 1⟩] })
      ∧ ((portOp (.read 1) 0x3FFF).kind = firstOperation (.physRead 0x3FFF 2) ⟨0x3FFF, 1⟩ ∧ (Operands.physRead 0x3FFF 2).physical = true)
      ∧ ((firstOf (.physWrite 0xFFFF [1, 2]) ⟨0x10000, 1⟩ anchored).Quiet
        ∧ (firstOf (.physWrite 0xFFFF [1, 2]) ⟨0x10000, 1⟩ anchored).CanComplete .near (portOp (.write [1]) 0x3FFF))
      ∧ ((firstOf readInto inPage admins).Quiet ∧ readInto.isLogical = true ∧ (admins.anchor (keyOf inPage.addr).space).length = 0)
      ∧ ((firstOf writeInto inPage { anchored with anchors := anchored.anchors.set 1 ⟨0x2000, 2, 0xFF⟩ }).Quiet
        ∧ writeInto.isLogical = true ∧ (2 : Nat) ≤ (keyOf inPage.addr).segment.toNat)
      ∧ ((firstOf readInto inPage anchored).Quiet ∧ anchored.Lacks (keyOf inPage.addr) ∧ (keyOf inPage.addr).segment.toNat < (anchored.anchor 1).length
        ∧ (anchored.anchor 1).mask.getLsbD 1 = true)
      ∧ ((firstOf writeInto inPage (cached (fullAccess 0 none false))).Quiet
        ∧ (cached (fullAccess 0 none false)).Holds (keyOf inPage.addr) false (fullAccess 0 none false) ∧ writeInto.translatesWrite = true)
      ∧ ((firstOf writeInto inPage (cached (fullAccess 4 (some 5) true))).Quiet
        ∧ (cached (fullAccess 4 (some 5) true)).Holds (keyOf inPage.addr) false (fullAccess 4 (some 5) true)
        ∧ (firstOf writeInto inPage (cached (fullAccess 4 (some 5) true))).CanComplete .near (portOp (.write [1]) 0x3FFF)) := by decide +kernel

/-- The same states with port 1's data slot full and its transmitter busy. -/
def slotFull (s : State) : State :=
  (sending 1 s).modPort 1 fun r => { r with dataSlot := some ⟨{ tag := 1, status := .ok }, false⟩ }

theorem witness_DataErrorsAreReported :
    ((failing true).Quiet ∧ (failing true).CanComplete .external { portOp (.read 8) 0x100000 with discard := true } ∧ (failing true).MemoryCanonical)
      ∧ (0x100003 ∈ (failing true).pool.failed ∧ ∀ y ∈ (failing true).pool.failed, 0x100000 ≤ y → 0x100003 ≤ y)
      ∧ ((failing false).Quiet ∧ (failing false).CanComplete .external (portOp (.read 8) 0x100000) ∧ ((failing false).port 1).engine.state = .memory
        ∧ ((failing false).port 1).engine.current = some ⟨9, aRead 8⟩ ∧ (aRead 8).writeData = none
        ∧ ((failing false).port 1).engine.second = false ∧ ((failing false).port 1).dataSlot = none)
      ∧ (failingSecond.Quiet ∧ failingSecond.CanComplete .external (portOp (.read 2) 0x100002) ∧ failingSecond.MemoryCanonical
        ∧ (failingSecond.port 1).engine.second = true ∧ (failingSecond.port 1).dataSlot = none
        ∧ (failingSecond.port 1).engine.portions = [⟨(at123 16382).setWidth 34, 2⟩, ⟨(at123 16384).setWidth 34, 2⟩])
      ∧ (∀ s ∈ [slotFull (failing false), slotFull failingSecond], s.Quiet ∧ s.MemoryCanonical ∧ (s.port 1).state = .active
        ∧ (s.port 1).engine.state = .memory ∧ (s.port 1).dataSlot = some ⟨{ tag := 1, status := .ok }, false⟩)
      ∧ ((slotFull (failing false)).CanComplete .external (portOp (.read 8) 0x100000)
        ∧ (slotFull failingSecond).CanComplete .external (portOp (.read 2) 0x100002)
        ∧ ((slotFull failingSecond).port 1).engine.current = some ⟨9, aRead 4⟩) := by decide +kernel

theorem witness_WalkRequestsAreTaken :
    ((asking anchored).Quiet ∧ ((asking anchored).port 3).engine.state = .translate ∧ key = keyOf ((asking anchored).port 3).engine.portion.addr)
      ∧ (true = ((asking anchored).port 3).engine.current.any fun c => c.ops.translatesWrite)
      ∧ ((asking (walkIn (walking .descriptor false) .near descriptorRead)).Quiet
        ∧ (asking (walkIn (walking .descriptor false) .near descriptorRead)).Walks 0 key)
      ∧ ((∀ j : SlotId, ¬(asking anchored).Walks j key) ∧ (asking anchored).Open 0 ∧ ∀ j : SlotId, j < 0 → ¬(asking anchored).Open j)
      ∧ ((asking anchored).anchor key.space).base.toNat + 8 * key.segment.toNat < 65536
      ∧ (∀ a : Nat, a ∈ [65536, 0xFFFFFF] → 65536 ≤ a ∧ a < (asking anchored).pool.top ∧ a < 2 ^ 32 ∧ (asking anchored).pool.state = .ready)
      ∧ ((asking (filling anchored)).Quiet ∧ (asking (filling anchored)).pool.state ≠ .ready)
      ∧ ((asking { anchored with anchors := anchored.anchors.set 1 ⟨0x1000000, 64, 0xFF⟩ }).Quiet ∧ anchored.pool.top ≤ 0x1000000 + 8 * 2
        ∧ ((asking anchored).port 3).engine.current ≠ none)
      ∧ (allBusy.Quiet ∧ (∀ j : SlotId, ¬allBusy.Walks j key) ∧ ∀ j : SlotId, ¬allBusy.Open j) := by decide +kernel

/-- Port 3's offered miss in the walk that follows from space 1's descriptor base, the pool as given. -/
def offeredMiss (base : Nat) (pool : State → State) : State :=
  let s := offered (some .miss)
  pool { s with anchors := s.anchors.set 1 { base := BitVec.ofNat 32 base, length := 64, mask := 0xFF } }

/-- Port 3's offered miss joins slot 2's walk of the key: in DESCRIPTOR a write marks set-modified, in MAP it does not. -/
def offeredJoin (phase : WalkPhase) : State :=
  ((offered none).setWaitList [⟨3, key, true, some .miss⟩]).modSlot 2 fun _ => { walking phase false with waitingReady := true }

/-- What joining adds to a walk (R45, R46). -/
theorem test_offeredJoin : ∀ phase ∈ [WalkPhase.descriptor, .map],
    after (exec (.offerAnswer 3) (offeredJoin phase)) (fun t => (t.slot 2).waiters == [⟨2, false⟩, ⟨3, true⟩]
      && (t.slot 2).setModified == (phase == .descriptor)) = true := by decide +kernel

theorem witness_OffersAreAnswered :
    ((offered none).Quiet ∧ (offered none).waitEntry 3 = some ⟨3, key, false, none⟩ ∧ ((offered none).slot 0).offeredTo = some 3
        ∧ ∀ j : SlotId, ((offered none).slot j).offeredTo = some 3 → j = 0)
      ∧ ((offered (some (.hit (fullAccess 0 none true)))).Quiet ∧ (offered (some (.hit (fullAccess 0 none true)))).waitEntry 3
          = some ⟨3, key, false, some (.hit (fullAccess 0 none true))⟩
        ∧ ((offered (some (.hit (fullAccess 0 none true)))).port 3).engine.current ≠ none)
      ∧ ((offered (some .miss)).Quiet ∧ (∀ j : SlotId, ¬(offered (some .miss)).Walks j key)
        ∧ ((offered (some .miss)).anchor key.space).base.toNat + 8 * key.segment.toNat < 65536)
      ∧ (∀ base ∈ [0xFFE8, 0xFFF0, 0xFFFFE8, 0xFFFFF0], (offeredMiss base pooled).Quiet ∧ (offeredMiss base pooled).pool.state = .ready
        ∧ ((offeredMiss base pooled).anchor key.space).base.toNat = base ∧ (offeredMiss base pooled).waitEntry 3 = some ⟨3, key, false, some .miss⟩
        ∧ ∀ j : SlotId, ¬(offeredMiss base pooled).Walks j key)
      ∧ ((offeredMiss 0xFFF0 filling).Quiet ∧ (offeredMiss 0xFFF0 filling).pool.state ≠ .ready
        ∧ 65536 ≤ ((offeredMiss 0xFFF0 filling).anchor key.space).base.toNat + 8 * key.segment.toNat
        ∧ ((offeredMiss 0xFFF0 filling).anchor key.space).base.toNat + 8 * key.segment.toNat < (offeredMiss 0xFFF0 filling).pool.top)
      ∧ ((offeredMiss 0xFFFFF0 pooled).pool.top ≤ ((offeredMiss 0xFFFFF0 pooled).anchor key.space).base.toNat + 8 * key.segment.toNat
        ∧ ((offeredMiss 0xFFFFF0 pooled).port 3).engine.current ≠ none)
      ∧ (∀ phase ∈ [WalkPhase.descriptor, .map], (offeredJoin phase).Quiet ∧ (offeredJoin phase).Walks 2 key
        ∧ (offeredJoin phase).waitEntry 3 = some ⟨3, key, true, some .miss⟩ ∧ ((offeredJoin phase).slot 2).offeredTo = none)
      ∧ (((offered (some .missNeedingModified)).modSlot 2 fun _ => { walking .map false with waitingReady := true }).Quiet
        ∧ ((offered (some .missNeedingModified)).modSlot 2 fun _ => { walking .map false with waitingReady := true }).Walks 2 key
        ∧ (((offered (some .missNeedingModified)).modSlot 2 fun _ => { walking .map false with waitingReady := true }).slot 2).offeredTo = none)
      ∧ (alsoWaiting.Quiet ∧ (alsoWaiting.slot 0).phase = .free ∧ (alsoWaiting.slot 0).offeredTo = some 3 ∧ alsoWaiting.NextEligible 0)
      ∧ (∀ q : Port, ¬(offered none).Eligible q)
      ∧ ((alsoWaiting.withdrawOffer 3).Open 0 ∧ (alsoWaiting.withdrawOffer 3).NextEligible 0)
      ∧ (¬alsoWaiting.Open 0 ∧ ∀ q : Port, ¬anchored.Eligible q) := by decide +kernel

theorem witness_DescriptorsAreJudged :
    ((described [0, 0, 0x0C, 0, 3, 0x23, 0xFF, 0] (walking .descriptor false)).Quiet
        ∧ (described [0, 0, 0x0C, 0, 3, 0x23, 0xFF, 0] (walking .descriptor false)).CanComplete .near descriptorRead
        ∧ ((described [0, 0, 0x0C, 0, 3, 0x23, 0xFF, 0] (walking .descriptor false)).slot 0).phase = .descriptor
        ∧ (described [0, 0, 0x0C, 0, 3, 0x23, 0xFF, 0] (walking .descriptor false)).readFailure .near 0x2010 8 = none)
      ∧ (3 < ((0x23 : Byte).toNat / 8) % 8 ∧ 3 < (4 : Byte).toNat % 8 ∧ 32 ≤ (32 : Byte).toNat ∧ (254 : Byte).toNat ≤ 254)
      ∧ (((0x1B : Byte).toNat / 8) % 8 = Rights.readWrite.code.toNat ∧ (0x1B : Byte).toNat % 8 = Rights.readWrite.code.toNat ∧ (31 : Byte).toNat = (31 : LockId).val)
      ∧ ((0x9B : Byte).getLsbD 7 = true ∧ (2 : Byte).toNat + 1 ≤ key.page.toNat)
      ∧ ((0x1B : Byte).getLsbD 7 = false ∧ key.page.toNat < (3 : Byte).toNat + 1 ∧ ((0x00000C00 : BitVec 32).toNat % 2 ^ 30) * 4 + 4 * key.page.toNat = 0x300C)
      ∧ ((described [0, 0, 0x0C, 0, 3, 0x1B, 31, 0] (walking .descriptor true)).Quiet
        ∧ (0x00000C00 : BitVec 32).toNat = beNat (((described [0, 0, 0x0C, 0, 3, 0x1B, 31, 0] (walking .descriptor true)).store .near).bytes 0x2010 4))
      ∧ (((described [0, 0, 0x0C, 0, 3, 0x1B, 31, 0] (walking .descriptor true)).slot 0).waiters.map Waiter.port).Nodup
      ∧ (((described [0, 0, 0x0C, 0, 3, 0x1B, 31, 0] (walking .descriptor true)).port 2).engine.current ≠ none
        ∧ ((described [0, 0, 0x0C, 0, 3, 0x1B, 31, 0] (walking .descriptor true)).slot 0).offeredTo = none)
      ∧ (descriptorFails.Quiet ∧ descriptorFails.CanComplete .external { descriptorRead with addr := 0x100000 }
        ∧ (descriptorFails.slot 0).phase = .descriptor ∧ descriptorFails.readFailure .external 0x100000 8 ≠ none)
      ∧ (∀ a : Nat, a ∈ [65536, 0xFFFFFF] → 65536 ≤ a ∧ a < anchored.pool.top ∧ a < 2 ^ 32 ∧ anchored.pool.state = .ready)
      ∧ ((filling (described [0, 0, 0x40, 0, 3, 0x1B, 31, 0] (walking .descriptor false))).Quiet
        ∧ (filling (described [0, 0, 0x40, 0, 3, 0x1B, 31, 0] (walking .descriptor false))).CanComplete .near descriptorRead
        ∧ ((0x00004000 : BitVec 32).toNat % 2 ^ 30) * 4 + 4 * key.page.toNat = 0x1000C ∧ (filling anchored).pool.state ≠ .ready)
      ∧ ((described [0x3F, 0xFF, 0xFF, 0xFF, 3, 0x1B, 31, 0] (walking .descriptor false)).Quiet
        ∧ ((0x3FFFFFFF : BitVec 32).toNat % 2 ^ 30) * 4 + 4 * key.page.toNat = 2 ^ 32 + 8 ∧ anchored.pool.top ≤ 2 ^ 32 + 8) := by decide +kernel

theorem witness_MapUpdatesComplete :
    ((mapped [0x80, 0, 0, 65] true (walking .map false)).Quiet ∧ (mapped [0x80, 0, 0, 65] true (walking .map false)).MemoryCanonical
        ∧ (mapped [0x80, 0, 0, 65] true (walking .map false)).CanComplete .near (mapOp true)
        ∧ ((mapped [0x80, 0, 0, 65] true (walking .map false)).slot 0).phase = .map ∧ (mapFails.slot 0).phase = .map
        ∧ ((mapped [0x80, 0, 0, 65] false (walking .map true)).slot 0).phase = .map
        ∧ ((mapped [0, 0, 0, 65] true (walking .map false)).slot 0).phase = .map)
      ∧ ((0x80000041#32).toNat = beNat (((mapped [0x80, 0, 0, 65] true (walking .map false)).store .near).bytes 0x300C 4) ∧ (0x80000041#32).getLsbD 31 = true
        ∧ (mapped [0x80, 0, 0, 65] true (walking .map false)).readFailure .near 0x300C 4 = none)
      ∧ (((mapped [0x80, 0, 0, 65] true (walking .map false)).slot 0).stale = false ∧ ((mapped [0x80, 0, 0, 65] true (walking .map false)).slot 0).carried.noCache = false)
      ∧ ((mapped [0x80, 0, 0, 65] false (walking .map true)).Quiet ∧ ((mapped [0x80, 0, 0, 65] false (walking .map true)).slot 0).stale = true)
      ∧ ((mapped [0, 0, 0, 65] true (walking .map false)).Quiet ∧ (0x00000041#32).getLsbD 31 = false)
      ∧ (mapFails.Quiet ∧ mapFails.MemoryCanonical ∧ mapFails.CanComplete .external { mapOp true with addr := 0x100000 }
        ∧ mapFails.readFailure .external 0x100000 4 ≠ none)
      ∧ ((needing [0x80, 0, 0, 65]).Quiet ∧ (needing [0x80, 0, 0, 65]).CanComplete .near (mapOp false) ∧ ((needing [0x80, 0, 0, 65]).slot 0).waiters = [⟨2, true⟩]
        ∧ (((needing [0x80, 0, 0, 65]).slot 0).waiters.map Waiter.port).Nodup
        ∧ ((needing [0x80, 0, 0, 65]).port 2).engine.current = some ⟨9, .write (at123 0) false [1, 2]⟩
        ∧ (Operands.write (at123 0) false [1, 2]).translatesWrite = true ∧ ((0x80000041#32).getLsbD 29 || false) = false
        ∧ keyOf ((needing [0x80, 0, 0, 65]).port 2).engine.portion.addr = ((needing [0x80, 0, 0, 65]).slot 0).key)
      ∧ ((needing [0xA0, 0, 0, 65]).Quiet ∧ ((0xA0000041#32).getLsbD 29 || false) = true)
      ∧ ((mapped [0x80, 0, 0, 65] true (walking .map false)).port 2).engine.current ≠ none := by decide +kernel

theorem witness_LookupAndInstall :
    ((cached (fullAccess 0 none true)).Holds key false (fullAccess 0 none true) ∧ anchored.Lacks key)
      ∧ ((cached (fullAccess 0 none false)).Holds key false (fullAccess 0 none false))
      ∧ (anchored.cache[setIndex key].way0 = none ∧ ∀ e ∈ anchored.cache[setIndex key].way1, e.key ≠ key)
      ∧ (setIndex (otherEntry 2 3).key = setIndex key ∧ setIndex (otherEntry 1 0).key = setIndex key ∧ (otherEntry 2 3).key ≠ key ∧ (otherEntry 1 0).key ≠ key) := by decide +kernel

theorem witness_DecodeOrder :
    (windowed.pool.top ≤ 2 ^ 32 ∧ windowed.InWindow .exclude 0 0x100000 ∧ windowed.InWindow .exclude 0 0xFFFFFFFF ∧ windowed.InWindow .protect 1 0xFFFF)
      ∧ (moved.InWindow .relocate 2 0x11FFFF ∧ (∀ j : WindowId, ¬moved.InWindow .exclude j 0x11FFFF) ∧ (∀ j : WindowId, ¬moved.InWindow .protect j 0x11FFFF)
        ∧ (∀ j : WindowId, j < 2 → ¬moved.InWindow .relocate j 0x11FFFF) ∧ 0x1FFFF < moved.pool.top)
      ∧ (moved.InWindow .relocate 5 0x200000 ∧ (∀ j : WindowId, j < 5 → ¬moved.InWindow .relocate j 0x200000) ∧ moved.pool.top ≤ 256 * 65536)
      ∧ ((∀ j : WindowId, ¬anchored.InWindow .exclude j 0xFFFF ∧ ¬anchored.InWindow .protect j 0xFFFF ∧ ¬anchored.InWindow .relocate j 0xFFFF)
        ∧ 65536 ≤ (0x10000 : PhysAddress).toNat ∧ anchored.pool.top ≤ (0x1000000 : PhysAddress).toNat) := by decide +kernel

theorem witness_PoolReadyAndDisturbance :
    ((filling up).Quiet ∧ (filling up).pool.state = .initializing)
      ∧ ((filling (withEngine 0 { Engine.idle with state := .poolWait, current := some ⟨9, .setPool 16⟩ } up)).Quiet)
      ∧ ((filling (asking anchored)).Quiet ∧ (filling (anchored.modSlot 1 fun _ => { walking .descriptor false with waitingReady := true })).Quiet)
      ∧ ((filling (withEngine 1 { working (.physRead 0x10000 1) [⟨0x10000, 1⟩] false with state := .poolWait } up)).Quiet)
      ∧ ((filling (withEngine 1 { working (aRead 4) [⟨(at123 0).setWidth 34, 4⟩] false with state := .poolWait, translation := some (fullAccess 4 none true) } up)).Quiet
        ∧ (aRead 4).isLogical = true ∧ (Operands.physRead 0x10000 1).physical = true)
      ∧ ((filling drainingState).power = .operating ∧ (filling drainingState).draining = true ∧ (filling drainingState).AtRest)
      ∧ (up.Quiet ∧ up.pool.state ≠ .initializing)
      ∧ ((pooled up).Quiet ∧ (pooled up).pool.state = .ready ∧ (0xFFFFFF : PhysAddress).toNat < (pooled up).pool.top
        ∧ (pooled up).pool.top ≤ (0x1000000 : PhysAddress).toNat) := by decide +kernel

theorem witness_ClockPeriodsAndTicks :
    (up.Quiet ∧ up.prescaler.toNat < up.divide.toNat)
      ∧ ((dueTick up).Quiet ∧ (dueTick up).divide.toNat ≤ (dueTick up).prescaler.toNat)
      ∧ ((∀ n : LockId, ((dueTick (owned 5 1 (some 2) up)).lock n).counter ≠ some 1 ∧ ((dueTick (owned 5 1 (some 2) up)).lock n).counter ≠ some 0)
        ∧ ∀ p : Port, ((dueTick (owned 5 1 (some 2) up)).port p).timer ≠ .running 1 ∧ ((dueTick (owned 5 1 (some 2) up)).port p).timer ≠ .running 0)
      ∧ (drainingState.AtRest ∧ drainingState.prescaler.toNat < drainingState.divide.toNat)
      ∧ ((dueTick (owned 5 1 (some 1) drainingState)).AtRest ∧ (dueTick (owned 5 1 (some 1) drainingState)).draining = true
        ∧ ((dueTick (owned 5 1 (some 1) drainingState)).lock 5).counter = some 1)
      ∧ ((dueTick (drainingState.modPort 4 fun r => { r with timer := .running 1 })).AtRest
        ∧ ((dueTick (drainingState.modPort 4 fun r => { r with timer := .running 1 })).port 4).timer = .running 1) := by decide +kernel

/-- An expiry row during a device reset is no event: nothing changes, the prescaler neither (R132, R186; log 2). -/
theorem test_noExpiryInADeviceReset :
    let s : State := dueTick (owned 5 1 (some 1) (drainingState.modPort 4 fun r => { r with timer := .running 1 }))
    (after (exec (.leaseExpiry 5) s) (fun t => t == s) && after (exec (.coalescingTimerExpiry 4) s) fun t => t == s) = true := by decide +kernel

theorem witness_LeasesExpire :
    ((dueTick (waits 5 0 44 (owned 5 1 (some 1) up))).Quiet ∧ (dueTick (waits 5 0 44 (owned 5 1 (some 1) up))).LockLaw)
      ∧ (((dueTick (waits 5 0 44 (owned 5 1 (some 1) up))).lock 5).counter = some 1 ∧ ((dueTick (waits 5 0 44 (owned 5 1 (some 1) up))).lock 5).owner = some 1
        ∧ (dueTick (waits 5 0 44 (owned 5 1 (some 1) up))).expiring = [5]
        ∧ ((dueTick (waits 5 0 44 (owned 5 1 (some 1) up))).lock 5).nextAfter 1 7 44)
      ∧ ((dueTick (owned 5 1 (some 1) up)).Quiet ∧ (dueTick (owned 5 1 (some 1) up)).LockLaw ∧ ∀ q : Port, ((dueTick (owned 5 1 (some 1) up)).lock 5).pending[q] = none)
      ∧ ((dueTick (owned 9 1 (some 1) (waits 5 0 44 (owned 5 1 (some 1) up)))).Quiet ∧ (dueTick (owned 9 1 (some 1) (waits 5 0 44 (owned 5 1 (some 1) up)))).LockLaw
        ∧ (dueTick (owned 9 1 (some 1) (waits 5 0 44 (owned 5 1 (some 1) up)))).expiring = [5, 9])
      ∧ (up.LockLaw ∧ (up.lock 5).counter ≠ some 1) := by decide +kernel

/-- What an expiry adds: LEASE_LOST to the owner, GRANT to the first pending port after it, nothing to a later one (R120, R124). -/
theorem test_expiryRecords :
    (nextWaits.lock 5).expiryRecords 5 1 = [.leaseLost 5] ∧ (nextWaits.lock 5).expiryRecords 5 2 = [.grant 5 43]
      ∧ (nextWaits.lock 5).expiryRecords 5 0 = [] := by decide +kernel

/-- Two leases that expire at one tick, in whatever order the spec leaves open: the lower lock's record comes first, and its occurrence sets the latch (R128). -/
theorem test_two_expiries :
    after (exec (.leaseExpiry 9) (dueTick (owned 9 1 (some 1) (owned 5 1 (some 1) up)))) (fun t =>
      (t.port 1).outgoing == [.leaseLost 5, .leaseLost 9]
        && t.latch .leaseExpired == { isSet := true, count := 2, firstPort := some 1, firstAddress := some 5 }) = true := by decide +kernel

theorem witness_TimersExpire :
    ((dueTick (up.modPort 4 fun r => { r with timer := .running 1 })).Quiet
        ∧ ((dueTick (up.modPort 4 fun r => { r with timer := .running 1 })).port 4).timer = .running 1)
      ∧ (∀ n : LockId, (up.lock n).counter ≠ some 1 ∧ (up.lock n).counter ≠ some 0)
      ∧ (up.prescaler.toNat < up.divide.toNat) := by decide +kernel

theorem witness_BatchesForm :
    (((full 16).port 1).batchDue = true ∧ ((full 16).port 1).transmitter = none ∧ ((full 16).port 1).state = .active)
      ∧ ({ PortRec.powerOn 0 with dataSlot := some ⟨{ tag := 1, status := .ok }, false⟩ }.batchDue = false)
      ∧ ((PortRec.powerOn 0).batchDue = false ∧ (PortRec.powerOn 0).dataSlot = none)
      ∧ (true = true ↔ ((full 16).port 1).wake = .normal ∨ (∃ x ∈ ((full 16).port 1).completionQueue.take 16, x.urgent = true)
        ∨ ((full 16).port 1).dataSlot.any SlotFrame.flush = true)
      ∧ (((sending 1 up).port 1).transmitter ≠ none ∧ (State.reset.port 1).state ≠ .active ∧ ((full 16).port 1).engine.pendingFrame = none)
      ∧ ((up.port 1).transmitter = none ∧ (up.port 1).state = .active ∧ (up.port 1).batchDue = false ∧ (up.port 1).dataSlot = none)
      ∧ (replyWaits.transmitter = none ∧ replyWaits.state = .active ∧ replyWaits.batchDue = false ∧ replyWaits.dataSlot ≠ none
        ∧ replyWaits.engine.pendingFrame ≠ none)
      ∧ (drainingState.draining = true ∧ up.draining = false) := by decide +kernel

theorem witness_OperandsReadBack :
    (Instr.write 0 0 0 1 (List.replicate 256 7)).wellFormed = true
      ∧ (Instr.physWrite 0 0 0 [7]).wellFormed = true := by decide +kernel

theorem witness_laws :
    (up.LockLaw ∧ up.HoldingsLaw ∧ up.QueueBudget ∧ up.Settled ∧ up.MemoryCanonical ∧ up.CacheLaw ∧ up.WalkLaw ∧ up.PoolLaw)
      ∧ (fourLocks.LockLaw ∧ fourLocks.HoldingsLaw ∧ writing.MemoryCanonical ∧ moved.WindowLaw ∧ moved.AnchorLaw ∧ moved.PoolLaw)
      ∧ (up.AnchorLaw ∧ up.WindowLaw ∧ up.TimebaseLaw ∧ up.LatchLaw ∧ up.CoalescingLaw ∧ up.QueueLaw ∧ up.ClassLaw)
      ∧ ((dueTick up).TimebaseLaw ∧ ∀ p : Port, ((full 0).port p).requestQueue.length ≤ 8) := by decide +kernel

end Sys2Proof.Tests
end

section
/-! PROOFS. The translation cache (chapter 2): the set of a key, lookup, install and purge, way by way. -/

namespace Sys2Proof.Machine

/-! ### Sets of the cache -/

@[simp] theorem getElem_mapSets (f : CacheSet → CacheSet) (v : Vector CacheSet 128) (i : Fin 128) : (mapSets f v)[i] = f v[i] := by
  simp [mapSets]

theorem getElem_modSet (s : State) (i j : Fin 128) (f : CacheSet → CacheSet) :
    (s.modSet i f).cache[j] = if i = j then f s.cache[j] else s.cache[j] := by
  by_cases h : i = j
  · subst h; simp [State.modSet]
  · simp only [h, if_false, State.modSet]
    exact Vector.getElem_set_ne _ _ (fun e => h (Fin.ext e))

/-- The set of a key as a number (R23). -/
theorem setIndex_val (k : Key) :
    (setIndex k).val = (k.page.toNat % 128) ^^^ (k.segment.toNat % 128) ^^^ (16 * k.space.toNat) := by
  have hs : k.space.toNat < 8 := k.space.isLt
  have hspace : (k.space.setWidth 7 <<< 4).toNat = 16 * k.space.toNat := by
    rw [BitVec.toNat_shiftLeft, BitVec.toNat_setWidth, Nat.shiftLeft_eq]
    omega
  simp only [setIndex, BitVec.toNat_xor, BitVec.toNat_setWidth, hspace]

theorem holdsKey_eq_true {w : Option CacheEntry} {k : Key} : holdsKey w k = true ↔ ∃ e, w = some e ∧ e.key = k := by
  cases w <;> simp [holdsKey]

theorem holdsKey_eq_false {w : Option CacheEntry} {k : Key} : holdsKey w k = false ↔ ∀ e ∈ w, e.key ≠ k := by
  cases w <;> simp [holdsKey]

theorem purgeWay_eq_some {scope : Key → Bool} {w : Option CacheEntry} {e : CacheEntry} :
    purgeWay scope w = some e ↔ w = some e ∧ scope e.key = false := by
  simp [purgeWay, Option.filter_eq_some_iff]

/-! ### Which way a lookup finds and an install takes -/

theorem CacheSet.find_of_way0 {c : CacheSet} {k : Key} {t : Translation} (h : c.way0 = some ⟨k, t⟩) : c.find k = some (false, t) := by
  cases h1 : c.way1 <;> simp [CacheSet.find, h, h1]

theorem CacheSet.find_of_way1 {c : CacheSet} {k : Key} {t : Translation} (h0 : ∀ e ∈ c.way0, e.key ≠ k) (h : c.way1 = some ⟨k, t⟩) :
    c.find k = some (true, t) := by
  cases h' : c.way0 with
  | none => simp [CacheSet.find, h, h']
  | some e => simp [CacheSet.find, h, h', h0 e h']

theorem CacheSet.find_of_lacks {c : CacheSet} {k : Key} (h0 : ∀ e ∈ c.way0, e.key ≠ k) (h1 : ∀ e ∈ c.way1, e.key ≠ k) : c.find k = none := by
  cases h0' : c.way0 with
  | none => cases h1' : c.way1 with
    | none => simp [CacheSet.find, h0', h1']
    | some e => simp [CacheSet.find, h0', h1', h1 e h1']
  | some e => cases h1' : c.way1 with
    | none => simp [CacheSet.find, h0', h1', h0 e h0']
    | some e' => simp [CacheSet.find, h0', h1', h0 e h0', h1 e' h1']

/-- An install takes way 0 where it holds the key, or is invalid and way 1 lacks the key, or neither holds it and the indicator names way 1 (R30). -/
theorem CacheSet.wayFor_eq_false {c : CacheSet} {k : Key} :
    c.wayFor k = false ↔
      holdsKey c.way0 k = true
        ∨ holdsKey c.way1 k = false ∧ (c.way0 = none ∨ c.way1 ≠ none ∧ c.recent = true) := by
  unfold CacheSet.wayFor
  cases h0 : holdsKey c.way0 k
  · cases h1 : holdsKey c.way1 k
    · cases c.way0 <;> cases c.way1 <;> simp
    · simp
  · simp

/-- Where an install takes way 1, way 0 lacks the key (R30). -/
theorem CacheSet.wayFor_eq_true {c : CacheSet} {k : Key} :
    c.wayFor k = true ↔
      holdsKey c.way0 k = false
        ∧ (holdsKey c.way1 k = true ∨ c.way0 ≠ none ∧ (c.way1 = none ∨ c.recent = false)) := by
  rw [← Bool.not_eq_false, CacheSet.wayFor_eq_false]
  cases holdsKey c.way0 k <;> cases holdsKey c.way1 k <;> cases c.way0 <;> cases c.way1 <;> simp

theorem CacheSet.install_of_way0 {c : CacheSet} {e : CacheEntry} (h : c.wayFor e.key = false) :
    c.install e = { c with way0 := some e, recent := false } := by simp [CacheSet.install, h]

theorem CacheSet.install_of_way1 {c : CacheSet} {e : CacheEntry} (h : c.wayFor e.key = true) :
    c.install e = { c with way1 := some e, recent := true } := by simp [CacheSet.install, h]

/-! ### What a lookup and a purge are -/

theorem lookup_of_hit {s : State} {k : Key} {write way : Bool} {t : Translation} (hf : s.cache[setIndex k].find k = some (way, t))
    (h : write = false ∨ t.modifiedKnown = true) : s.lookup k write = (.hit t, s.afterHit k way) := by
  have hw : (write && !t.modifiedKnown) = false := by rcases h with h | h <;> simp [h]
  simp only [State.lookup, hf, hw]
  rfl

theorem lookup_of_unknown {s : State} {k : Key} {way : Bool} {t : Translation} (hf : s.cache[setIndex k].find k = some (way, t))
    (h : t.modifiedKnown = false) : s.lookup k true = (.missNeedingModified, { s with cacheMisses := s.cacheMisses + 1 }) := by
  simp only [State.lookup, hf, h]
  rfl

theorem lookup_of_absent {s : State} {k : Key} (write : Bool) (hf : s.cache[setIndex k].find k = none) :
    s.lookup k write = (if write then .missNeedingModified else .miss, { s with cacheMisses := s.cacheMisses + 1 }) := by
  simp only [State.lookup, hf]

theorem getElem_purge (s : State) (scope : Key → Bool) (i : Fin 128) : (s.purge scope).cache[i] = (s.cache[i]).purge scope :=
  getElem_mapSets _ _ i

theorem slot_purge (s : State) (scope : Key → Bool) (i : SlotId) :
    (s.purge scope).slot i = if (s.slot i).phase != .free && scope (s.slot i).key then { s.slot i with stale := true } else s.slot i :=
  slot_mapSlots _ _ i

theorem CacheSet.purged_eq (scope : Key → Bool) (c : CacheSet) :
    c.purged scope = (if c.way0.any fun e => scope e.key then 1 else 0) + (if c.way1.any fun e => scope e.key then 1 else 0) := by
  unfold CacheSet.purged
  cases h0 : c.way0.any fun e => scope e.key <;> cases h1 : c.way1.any fun e => scope e.key <;> simp [h0, h1]

theorem purgeCount_eq (s : State) (scope : Key → Bool) :
    s.purgeCount scope = ((List.finRange 128).map fun i : Fin 128 => (s.cache[i]).purged scope).sum := by
  have hl : s.cache.toList = (List.finRange 128).map fun i : Fin 128 => s.cache[i] := by
    apply List.ext_getElem <;> simp
  rw [State.purgeCount, hl, List.map_map]
  rfl

/-! ### The obligations about the cache alone -/

/-- Settles O46: the three terms of the exclusive or, each below 128. -/
theorem setIndexFormula : Obligations.SetIndexFormula := fun k => ⟨setIndex_val k, Nat.le_of_lt_succ (setIndex k).isLt⟩

/-- Settles O22, way by way and slot by slot. -/
theorem purgeRemovesItsScope : Obligations.PurgeRemovesItsScope := by
  intro s matched
  refine ⟨fun i => ?_, fun i => ?_, rfl, ?_⟩
  · rw [getElem_purge]
    exact ⟨rfl, fun e => purgeWay_eq_some, fun e => purgeWay_eq_some⟩
  · rw [slot_purge]
    simp
  · simp only [purgeCount_eq, CacheSet.purged_eq]

/-- Settles O47: a lookup by what the set's search finds, an install by the way it takes. -/
theorem lookupAndInstall : Obligations.LookupAndInstall := by
  intro s k
  refine ⟨fun way tr write hold hfirst => ?_, fun write hlacks => ?_, fun tr c hc => ⟨fun h => ?_, fun h => ?_⟩⟩
  · have hf : s.cache[setIndex k].find k = some (way, tr) := by
      cases way with
      | false => exact CacheSet.find_of_way0 hold
      | true => exact CacheSet.find_of_way1 (hfirst rfl) hold
    refine ⟨lookup_of_hit hf, fun hw hm => ?_⟩
    subst hw
    exact lookup_of_unknown hf hm
  · exact lookup_of_absent write (CacheSet.find_of_lacks hlacks.1 hlacks.2)
  · have hway : c.wayFor k = false := by
      rw [CacheSet.wayFor_eq_false, holdsKey_eq_true, holdsKey_eq_false]
      rcases h with h | ⟨h0, h1⟩ | ⟨hr, _, e, he, hk⟩
      · exact .inl h
      · exact .inr ⟨h1, .inl h0⟩
      · exact .inr ⟨by simpa [he] using hk, .inr ⟨by simp [he], hr⟩⟩
    subst hc
    exact congrArg (fun d => { s with cache := s.cache.set (setIndex k) d }) (CacheSet.install_of_way0 (e := ⟨k, tr⟩) hway)
  · have hway : c.wayFor k = true := by
      rw [CacheSet.wayFor_eq_true, holdsKey_eq_true, holdsKey_eq_false]
      rcases h with ⟨h0, h1⟩ | ⟨⟨e, he, hk⟩, h1⟩ | ⟨hr, ⟨e, he, hk⟩, _⟩
      · exact ⟨h0, .inl h1⟩
      · exact ⟨by simpa [he] using hk, .inr ⟨by simp [he], .inl h1⟩⟩
      · exact ⟨by simpa [he] using hk, .inr ⟨by simp [he], .inr hr⟩⟩
    subst hc
    exact congrArg (fun d => { s with cache := s.cache.set (setIndex k) d }) (CacheSet.install_of_way1 (e := ⟨k, tr⟩) hway)

end Sys2Proof.Machine
end

section
/-! PROOFS. The laws of the cache, the walk slots, the pool and the arbiters along every operation of the model, up to a whole step (R23, R30, R42, R47, R74 to R76, R80). -/

namespace Sys2Proof.Machine

/-! ### Going over from one state to another -/

/-- The three laws go over from a state to another, each by itself. -/
structure KeepsLaws (s t : State) : Prop where
  cache : s.CacheLaw → t.CacheLaw
  walk : s.WalkLaw → t.WalkLaw
  pool : s.PoolLaw → t.PoolLaw

/-- What the three laws look at: the cache, the walk slots, the state and top of the pool, the arbiters. -/
def State.blocks (s : State) : State :=
  { State.reset with
    cache := s.cache
    walker := { Walker.powerOn with slots := s.walker.slots }
    pool := { Pool.powerOn with state := s.pool.state, top := s.pool.top }
    nearArbiter := s.nearArbiter, poolArbiter := s.poolArbiter }

/-- What PoolLaw asks of the arbiters: the pool's empty until READY, each with no more operations taken than its target accepts (R80). -/
abbrev State.ArbitersLawful (s : State) : Prop :=
  (s.pool.state ≠ .ready → s.poolArbiter.waiting = [] ∧ s.poolArbiter.taken = [])
    ∧ s.nearArbiter.taken.length ≤ Config.nearDepth ∧ s.poolArbiter.taken.length ≤ Config.poolDepth

section
variable {s t u : State}

theorem KeepsLaws.refl (s : State) : KeepsLaws s s := ⟨id, id, id⟩

theorem KeepsLaws.trans (h : KeepsLaws s t) (h' : KeepsLaws t u) : KeepsLaws s u :=
  ⟨h'.cache ∘ h.cache, h'.walk ∘ h.walk, h'.pool ∘ h.pool⟩

/-- A change of nothing the laws look at keeps them. -/
theorem KeepsLaws.of_blocks (h : t.blocks = s.blocks) : KeepsLaws s t :=
  ⟨Eq.mpr (congrArg State.CacheLaw h :), Eq.mpr (congrArg State.WalkLaw h :), Eq.mpr (congrArg State.PoolLaw h :)⟩

theorem blocks_of_butLeases (h : t.butLeases = s.butLeases) : t.blocks = s.blocks := (congrArg State.blocks h :)

theorem blocks_of_butLocks (h : t.butLocks = s.butLocks) : t.blocks = s.blocks := (congrArg State.blocks h :)

theorem blocks_of_butLatches (h : t.butLatches = s.butLatches) : t.blocks = s.blocks := (congrArg State.blocks h :)

theorem blocks_of_butPorts (h : t.butPorts = s.butPorts) : t.blocks = s.blocks := (congrArg State.blocks h :)

/-- What keeps the laws after a change of nothing they look at keeps them from before it. -/
theorem KeepsLaws.from_blocks (h : KeepsLaws t u) (hb : t.blocks = s.blocks) : KeepsLaws s u := (KeepsLaws.of_blocks hb).trans h

/-- A change of the cache and its counters keeps the laws when it keeps the law of the cache. -/
theorem KeepsLaws.of_butCache (h : t.butCache = s.butCache) (hc : s.CacheLaw → t.CacheLaw) : KeepsLaws s t :=
  ⟨hc, Eq.mpr (congrArg State.WalkLaw h :), Eq.mpr (congrArg State.PoolLaw h :)⟩

/-- A change of the arbiters keeps the laws when the arbiters are lawful after it. -/
theorem KeepsLaws.of_arbiters (h : t.butArbiters.blocks = s.butArbiters.blocks) (ha : s.PoolLaw → t.ArbitersLawful) : KeepsLaws s t where
  cache := Eq.mpr (congrArg State.CacheLaw h :)
  walk := Eq.mpr (congrArg State.WalkLaw h :)
  pool hp := by
    have hstate : t.pool.state = s.pool.state := (congrArg (fun u : State => u.pool.state) h :)
    have htop : t.pool.top = s.pool.top := (congrArg (fun u : State => u.pool.top) h :)
    obtain ⟨hunset, hset, hmax, hmod, _⟩ := id hp
    unfold State.PoolLaw
    rw [hstate, htop, ← hstate]
    exact ⟨hstate ▸ hunset, hstate ▸ hset, hmax, hmod, ha hp⟩

/-- A fold of steps that keep the laws, under a condition that every step keeps, keeps the laws. -/
theorem KeepsLaws.foldl {α : Type} {Q : State → Prop} {f : State → α → State} (hf : ∀ s a, Q s → KeepsLaws s (f s a))
    (hQ : ∀ s a, Q s → Q (f s a)) (l : List α) (s : State) (h : Q s) : KeepsLaws s (l.foldl f s) := by
  induction l generalizing s with
  | nil => exact .refl s
  | cons a l ih => exact (hf s a h).trans (ih _ (hQ s a h))

end

/-! ### The cache -/

/-- What CacheLaw asks of the set with a number (R23, R30). -/
abbrev CacheSet.Lawful (i : Fin 128) (c : CacheSet) : Prop :=
  (∀ e ∈ c.way0, setIndex e.key = i) ∧ (∀ e ∈ c.way1, setIndex e.key = i) ∧ ∀ e ∈ c.way0, ∀ e' ∈ c.way1, e.key ≠ e'.key

theorem CacheSet.Lawful.install {i : Fin 128} {c : CacheSet} (h : c.Lawful i) {e : CacheEntry} (he : setIndex e.key = i) :
    (c.install e).Lawful i := by
  obtain ⟨h0, h1, hne⟩ := h
  cases hw : c.wayFor e.key
  · rw [CacheSet.install_of_way0 hw]
    refine ⟨by simpa using he, h1, ?_⟩
    intro e' he' e1 he1
    obtain rfl : e = e' := by simpa using he'
    rcases CacheSet.wayFor_eq_false.1 hw with hold | ⟨hfree, _⟩
    · obtain ⟨e0, he0, hk⟩ := holdsKey_eq_true.1 hold
      exact hk ▸ hne e0 he0 e1 he1
    · exact (holdsKey_eq_false.1 hfree e1 he1).symm
  · rw [CacheSet.install_of_way1 hw]
    refine ⟨h0, by simpa using he, ?_⟩
    intro e0 he0 e' he'
    obtain rfl : e = e' := by simpa using he'
    exact holdsKey_eq_false.1 (CacheSet.wayFor_eq_true.1 hw).1 e0 he0

theorem CacheSet.Lawful.purge {i : Fin 128} {c : CacheSet} (h : c.Lawful i) (scope : Key → Bool) : (c.purge scope).Lawful i := by
  obtain ⟨h0, h1, hne⟩ := h
  have hway {w : Option CacheEntry} {e : CacheEntry} (he : e ∈ purgeWay scope w) : e ∈ w := (purgeWay_eq_some.1 he).1
  exact ⟨fun e he => h0 e (hway he), fun e he => h1 e (hway he), fun e he e' he' => hne e (hway he) e' (hway he')⟩

variable (s : State)

theorem modSet_cacheLaw {s : State} (h : s.CacheLaw) (i : Fin 128) (f : CacheSet → CacheSet) (hf : (f s.cache[i]).Lawful i) :
    (s.modSet i f).CacheLaw := by
  intro j
  rw [getElem_modSet]
  split
  · subst_vars; exact hf
  · exact h j

theorem lookup_keepsLaws (k : Key) (write : Bool) : KeepsLaws s (s.lookup k write).2 := by
  refine .of_butCache (lookup_keeps s k write) fun h => ?_
  simp only [State.lookup]
  split
  · rename_i way t _
    split
    · exact h
    · exact modSet_cacheLaw h (setIndex k) (fun c => { c with recent := way }) (h (setIndex k))
  · exact h

theorem installEntry_keepsLaws (k : Key) (t : Translation) : KeepsLaws s (s.installEntry k t) :=
  .of_butCache (installEntry_keeps s k t) fun h => modSet_cacheLaw h _ _ (CacheSet.Lawful.install (h _) rfl)

/-! ### The walk slots -/

/-- A slot that becomes another one walks no key it did not walk, and is not offered while busy unless it was. -/
def WalkSlot.Eases (w w' : WalkSlot) : Prop :=
  (w'.busy = true → w'.stale = false → w.busy = true ∧ w.stale = false ∧ w'.key = w.key)
    ∧ (w'.offeredTo ≠ none → w'.busy = true → w.offeredTo ≠ none ∧ w.busy = true)

theorem WalkSlot.Eases.of_same {w w' : WalkSlot} (hp : w'.phase = w.phase) (hk : w'.key = w.key) (hs : w'.stale = w.stale)
    (ho : w'.offeredTo = w.offeredTo) : w.Eases w' := by
  have hb : w'.busy = w.busy := by rw [WalkSlot.busy, WalkSlot.busy, hp]
  exact ⟨fun b n => ⟨hb ▸ b, hs ▸ n, hk⟩, fun o b => ⟨ho ▸ o, hb ▸ b⟩⟩

theorem WalkSlot.Eases.of_free {w w' : WalkSlot} (h : w'.busy = false) : w.Eases w' := by simp [WalkSlot.Eases, h]

theorem walkLaw_of_eases {s t : State} (h : s.WalkLaw) (he : ∀ i, (s.slot i).Eases (t.slot i)) : t.WalkLaw := by
  obtain ⟨hone, hoffer⟩ := h
  constructor
  · intro i j bi si bj sj hk
    obtain ⟨bi', si', ki⟩ := (he i).1 bi si
    obtain ⟨bj', sj', kj⟩ := (he j).1 bj sj
    exact hone i j bi' si' bj' sj' (ki.symm.trans (hk.trans kj))
  · intro i ho
    by_contra hb
    obtain ⟨ho', hb'⟩ := (he i).2 ho (by simpa using hb)
    exact absurd hb' (by simp [hoffer i ho'])

theorem mapSlots_keepsLaws (f : WalkSlot → WalkSlot) (h : ∀ w : WalkSlot, w.Eases (f w)) : KeepsLaws s (s.mapSlots f) where
  cache := id
  walk hw := walkLaw_of_eases hw fun i => by rw [slot_mapSlots]; exact h _
  pool := id

theorem modSlot_keepsLaws (i : SlotId) (f : WalkSlot → WalkSlot) (h : (s.slot i).Eases (f (s.slot i))) : KeepsLaws s (s.modSlot i f) where
  cache := id
  walk hw := walkLaw_of_eases hw fun j => by
    rw [slot_modSlot]
    split
    · subst_vars; exact h
    · exact .of_same rfl rfl rfl rfl
  pool := id

theorem walkingSlot_eq_none {s : State} {k : Key} :
    s.walkingSlot k = none ↔ ∀ i, (s.slot i).busy = true → (s.slot i).stale = false → (s.slot i).key ≠ k := by
  simp [State.walkingSlot, List.find?_eq_none, mem_allSlots, WalkSlot.busy]

/-- A slot that takes up the walk of a key which no busy slot walks, and is not offered (R42, R45). -/
theorem modSlot_keepsLaws_of_new (i : SlotId) (w : WalkSlot) (hk : s.walkingSlot w.key = none) (ho : w.offeredTo = none) :
    KeepsLaws s (s.modSlot i fun _ => w) where
  cache := id
  walk hw := by
    have hnew := walkingSlot_eq_none.1 hk
    constructor
    · intro a b
      rw [slot_modSlot, slot_modSlot]
      split <;> split
      · intros; subst_vars; rfl
      · intro _ _ hb sb e; exact absurd e.symm (hnew b hb sb)
      · intro ha sa _ _ e; exact absurd e (hnew a ha sa)
      · exact hw.1 a b
    · intro a
      rw [slot_modSlot]
      split
      · exact fun h => absurd ho h
      · exact hw.2 a
  pool := id

theorem purge_keepsLaws (scope : Key → Bool) : KeepsLaws s (s.purge scope) where
  cache h i := by rw [getElem_purge]; exact CacheSet.Lawful.purge (h i) scope
  walk h := walkLaw_of_eases h fun i => by
    rw [slot_purge]
    split
    · exact ⟨fun _ hs => by simp at hs, fun ho hb => ⟨ho, hb⟩⟩
    · exact .of_same rfl rfl rfl rfl
  pool := id

theorem withdrawOffer_keepsLaws (p : Port) : KeepsLaws s (s.withdrawOffer p) :=
  mapSlots_keepsLaws s _ fun w => by
    split
    · exact ⟨fun hb hs => ⟨hb, hs, rfl⟩, fun ho => absurd rfl ho⟩
    · exact .of_same rfl rfl rfl rfl

theorem walkerLeaves_keepsLaws (p : Port) : KeepsLaws s (s.walkerLeaves p) :=
  have hoffer : KeepsLaws s ((s.leaveWaitList p).withdrawOffer p) := (withdrawOffer_keepsLaws _ p).from_blocks rfl
  hoffer.trans (mapSlots_keepsLaws _ _ fun _ => .of_same rfl rfl rfl rfl)

theorem joinSlot_keepsLaws (i : SlotId) (p : Port) (m : Bool) : KeepsLaws s (s.joinSlot i p m) :=
  (modSlot_keepsLaws s i
    (fun w => { w with waiters := w.waiters ++ [⟨p, m⟩], setModified := w.setModified || (m && w.phase == .descriptor) })
    (.of_same rfl rfl rfl rfl)).trans (.of_blocks rfl)

theorem offerSlot_keepsLaws (i : SlotId) : KeepsLaws s (s.offerSlot i) := by
  unfold State.offerSlot
  split
  · rename_i hfree
    split
    · rename_i q _
      refine (modSlot_keepsLaws s i (fun w => { w with offeredTo := some q }) (.of_free ?_)).trans (.of_blocks rfl)
      simp only [Bool.and_eq_true, beq_iff_eq] at hfree
      simp [WalkSlot.busy, hfree.1]
    · exact .refl s
  · exact .refl s

theorem offerSlots_keepsLaws : KeepsLaws s s.offerSlots :=
  .foldl (Q := fun _ => True) (fun s i _ => offerSlot_keepsLaws s i) (fun _ _ _ => trivial) allSlots s trivial

/-! ### The arbiters and the memory operations at their targets -/

theorem placeOp_keepsLaws (t : Target) (op : MemOp) (h : t = .external → s.PoolLaw → s.pool.state = .ready) : KeepsLaws s (s.placeOp t op) := by
  refine .of_arbiters (congrArg State.blocks (placeOp_keeps s t op)) fun hp => ?_
  obtain ⟨_, _, _, _, harb⟩ := id hp
  cases t with
  | near => exact harb
  | external => exact ⟨fun hr => absurd (h rfl hp) hr, harb.2⟩

theorem arbiterTake_keepsLaws (t : Target) : KeepsLaws s (s.arbiterTake t) := by
  refine .of_arbiters (congrArg State.blocks (arbiterTake_keeps s t)) fun ⟨_, _, _, _, harb⟩ => ?_
  unfold State.arbiterTake
  split
  · rename_i hready
    split
    · simp only [State.arbiterReady, Bool.and_eq_true, decide_eq_true_eq] at hready
      have hroom := hready.1.2
      cases t with
      | near =>
          have htaken : s.nearArbiter.taken.length < Config.nearDepth := hroom
          exact ⟨harb.1, by simpa [State.setArbiter, State.arbiter] using Nat.succ_le_of_lt htaken, harb.2.2⟩
      | external =>
          have hr : s.pool.state = .ready := by
            by_contra hr
            simp [State.depth, hr] at hroom
          rw [State.depth, if_pos hr] at hroom
          exact ⟨fun h => absurd hr h, harb.2.1, by simpa [State.setArbiter, State.arbiter] using hroom⟩
    · exact harb
  · exact harb

theorem arbitersTake_keepsLaws : KeepsLaws s s.arbitersTake :=
  (arbiterTake_keepsLaws s .near).trans <| (arbiterTake_keepsLaws _ .external).trans <| (arbiterTake_keepsLaws _ .external).trans <|
    (arbiterTake_keepsLaws _ .external).trans (arbiterTake_keepsLaws _ .external)

theorem arbiterRace_keepsLaws : KeepsLaws s s.arbiterRace := by
  have hdraw : KeepsLaws s s.drawBit.2 := .of_blocks rfl
  unfold State.arbiterRace
  split
  · split
    · exact hdraw.trans (arbitersTake_keepsLaws _)
    · exact hdraw
  · exact .refl s

theorem leaveArbiter_keepsLaws (t : Target) (op : MemOp) : KeepsLaws s (s.leaveArbiter t op) := by
  refine .of_arbiters (congrArg State.blocks (leaveArbiter_keeps s t op)) fun ⟨_, _, _, _, hempty, hnear, hpool⟩ => ?_
  cases t with
  | near => exact ⟨hempty, (List.length_erase_le).trans hnear, hpool⟩
  | external =>
      refine ⟨fun hr => ⟨(hempty hr).1, ?_⟩, hnear, (List.length_erase_le).trans hpool⟩
      show s.poolArbiter.taken.erase op = []
      rw [(hempty hr).2]
      rfl

/-- What an operation does at its target changes bytes and check bits alone. -/
theorem perform_blocks (t : Target) (op : MemOp) : (s.perform t op).2.blocks = s.blocks := by
  have hwrite : ∀ a data, (s.writeStore t a data).blocks = s.blocks := fun a data => by cases t <;> rfl
  unfold State.perform
  split
  · split <;> rfl
  · exact hwrite _ _
  · split
    · rfl
    · simp only
      split
      · rfl
      · exact hwrite _ _

theorem completeOp_keepsLaws {s t : State} {r : Requester} {res : OpResult} {op : MemOp} (h : s.completeOp r = some (res, op, t)) :
    KeepsLaws s t := by
  unfold State.completeOp at h
  split at h
  · cases h
    exact (leaveArbiter_keepsLaws _ .near op).from_blocks (perform_blocks s .near op)
  · split at h
    · cases h
      exact (leaveArbiter_keepsLaws _ .external op).from_blocks (perform_blocks s .external op)
    · cases h

theorem slot_leaveArbiter (t : Target) (op : MemOp) (i : SlotId) : (s.leaveArbiter t op).slot i = s.slot i := slot_setArbiter s t _ i

theorem slot_perform (t : Target) (op : MemOp) (i : SlotId) : (s.perform t op).2.slot i = s.slot i :=
  (congrArg (fun u : State => u.slot i) (perform_blocks s t op) :)

/-- The completion of an operation at its target changes no walk slot. -/
theorem slot_of_completeOp {s t : State} {r : Requester} {res : OpResult} {op : MemOp} (h : s.completeOp r = some (res, op, t))
    (i : SlotId) : t.slot i = s.slot i := by
  unfold State.completeOp at h
  split at h
  · cases h
    rw [slot_leaveArbiter, slot_perform]
  · split at h
    · cases h
      rw [slot_leaveArbiter, slot_perform]
    · cases h

theorem slot_arbiterRace (i : SlotId) : s.arbiterRace.slot i = s.slot i :=
  (congrArg (fun u : State => u.slot i) (arbiterRace_keeps s) :)

end Sys2Proof.Machine
end

section
/-! PROOFS. The laws of cache, walker, pool and arbiters along the requests, the walks, the resets and the events of the model, and so along every step. -/

namespace Sys2Proof.Machine

variable (s : State)

/-! ### Access requests -/

/-- An address decodes to the external target only while the pool has a top (R70, R74). -/
theorem top_pos_of_decode_external {s : State} {a : PhysAddress} {cls : PortClass} {b : BitVec 32} (h : s.decode a cls = .external b) :
    0 < s.pool.top := by
  unfold State.decode at h
  split at h
  · cases h
  · split at h
    · cases h
    · split at h
      · split at h
        · cases h
        · omega
      · split at h
        · cases h
        · split at h
          · omega
          · cases h

theorem placePortion_keepsLaws (p : Port) (t : Target) (a : Nat) (h : t = .external → s.PoolLaw → s.pool.state = .ready) :
    KeepsLaws s (s.placePortion p t a) := (placeOp_keepsLaws s t _ h).trans (.of_blocks rfl)

/-- An issue places an operation with the pool only when it is READY: UNSET has no external addresses, and INITIALIZING makes the portion wait (R97). -/
theorem issue_keepsLaws (p : Port) : KeepsLaws s (s.issue p) := by
  unfold State.issue
  split
  · exact .of_blocks rfl
  · split
    · exact .of_blocks rfl
    · exact placePortion_keepsLaws s p .near _ nofun
    · rename_i a hdecode
      split
      · exact .of_blocks rfl
      · rename_i hfill
        refine placePortion_keepsLaws s p .external _ fun _ ⟨hunset, _⟩ => ?_
        have htop := top_pos_of_decode_external hdecode
        cases hstate : s.pool.state with
        | unset => exact absurd (hunset hstate) (by omega)
        | initializing => exact absurd hstate hfill
        | ready => rfl

theorem translated_keepsLaws (p : Port) (t : Translation) : KeepsLaws s (s.translated p t) := by
  simp only [State.translated]
  split
  · exact .of_blocks rfl
  · split
    · exact .of_blocks rfl
    · split
      · exact .of_blocks rfl
      · exact (issue_keepsLaws _ p).from_blocks rfl

theorem lookupPortion_keepsLaws (p : Port) : KeepsLaws s (s.lookupPortion p) := by
  have hask : ∀ k write, KeepsLaws s ((s.lookup k write).2.modEngine p fun e => { e with state := .translate }) := fun k write =>
    (lookup_keepsLaws s k write).trans (.of_blocks rfl)
  simp only [State.lookupPortion]
  split
  · exact (hask _ _).trans (translated_keepsLaws _ p _)
  · exact hask _ _
  · exact hask _ _

theorem startPortion_keepsLaws (p : Port) : KeepsLaws s (s.startPortion p) := by
  simp only [State.startPortion]
  split
  · exact issue_keepsLaws s p
  · split
    · exact .of_blocks rfl
    · split
      · exact .of_blocks rfl
      · exact lookupPortion_keepsLaws s p

theorem portionDone_keepsLaws (p : Port) : KeepsLaws s (s.portionDone p) := by
  simp only [State.portionDone]
  split
  · exact .refl s
  · split
    · exact (startPortion_keepsLaws _ p).from_blocks rfl
    · exact .of_blocks rfl

theorem operationDone_keepsLaws (p : Port) (res : OpResult) : KeepsLaws s (s.operationDone p res) := by
  cases res with
  | bytes data => exact (portionDone_keepsLaws _ p).from_blocks rfl
  | entry word => exact portionDone_keepsLaws s p
  | written => exact portionDone_keepsLaws s p
  | dataError a => exact .of_blocks rfl

theorem beginAccess_keepsLaws (p : Port) (tag : Tag) (ops : Operands) (portions : List Portion) :
    KeepsLaws s (s.beginAccess p tag ops portions) := (startPortion_keepsLaws _ p).from_blocks rfl

/-- An access request begins its first portion or is refused. -/
theorem beginAccess_or_refused_keepsLaws (c : Prop) [Decidable c] (p : Port) (kind : Byte) (tag : Tag) (ops : Operands)
    (portions : List Portion) :
    KeepsLaws s (if c then s.beginAccess p tag ops portions else s.replyRefusal p kind tag .malformed) := by
  split
  · exact beginAccess_keepsLaws s p tag ops portions
  · exact .of_blocks rfl

/-! ### Walks -/

theorem deliver_keepsLaws (o : WalkOutcome) (w : Waiter) : KeepsLaws s (s.deliver o w) := by
  unfold State.deliver
  split
  · exact .of_blocks rfl
  · split
    · exact lookupPortion_keepsLaws s _
    · exact translated_keepsLaws s _ _

theorem deliverAll_keepsLaws (o : WalkOutcome) (l : List Waiter) : KeepsLaws s (State.deliverAll o l s) := by
  induction l generalizing s with
  | nil => exact .refl s
  | cons w l ih =>
      cases l with
      | nil => exact deliver_keepsLaws s o w
      | cons w' l => exact (deliver_keepsLaws s o w).trans ((arbiterRace_keepsLaws _).trans (ih _))

theorem tableErrorOccurrence_keepsLaws (o : WalkOutcome) (w : WalkSlot) : KeepsLaws s (s.tableErrorOccurrence o w) :=
  .of_blocks (blocks_of_butLatches (tableErrorOccurrence_keeps s o w))

theorem reportWalk_keepsLaws (o : WalkOutcome) (w : WalkSlot) : KeepsLaws s (s.reportWalk o w) := by
  unfold State.reportWalk State.reportAfter
  split
  · have hdraw : KeepsLaws s s.drawPick.2 := .of_blocks rfl
    exact hdraw.trans ((deliverAll_keepsLaws _ o _).trans ((tableErrorOccurrence_keepsLaws _ o w).trans (deliverAll_keepsLaws _ o _)))
  · exact (tableErrorOccurrence_keepsLaws s o w).trans (deliverAll_keepsLaws _ o _)

theorem installResult_keepsLaws (o : WalkOutcome) (w : WalkSlot) : KeepsLaws s (s.installResult o w) := by
  unfold State.installResult
  split
  · split
    · exact .refl s
    · exact installEntry_keepsLaws s _ _
  · exact .refl s

theorem endWalk_keepsLaws (i : SlotId) (o : WalkOutcome) : KeepsLaws s (s.endWalk i o) := by
  have hreport := (installResult_keepsLaws s o (s.slot i)).trans (reportWalk_keepsLaws _ o (s.slot i))
  simp only [State.endWalk]
  generalize (s.installResult o (s.slot i)).reportWalk o (s.slot i) = t at hreport ⊢
  exact hreport.trans ((modSlot_keepsLaws _ i (fun _ => WalkSlot.empty) (.of_free rfl)).from_blocks rfl)

/-- A busy slot enters a phase of its walk. -/
theorem enterPhase_keepsLaws (i : SlotId) (ph : WalkPhase) (a : Nat) (h : (s.slot i).busy = true) : KeepsLaws s (s.enterPhase i ph a) := by
  have henter : KeepsLaws s (s.modSlot i fun w => { w with phase := ph, tableAddress := .ofNat 32 a }) :=
    modSlot_keepsLaws s i _ ⟨fun _ hs => ⟨h, hs, rfl⟩, fun ho _ => ⟨ho, h⟩⟩
  simp only [State.enterPhase]
  split
  · exact henter.trans (endWalk_keepsLaws _ i _)
  · exact henter.trans (placeOp_keepsLaws _ .near _ nofun)
  · split
    · rename_i hready
      exact henter.trans (placeOp_keepsLaws _ .external _ fun _ _ => hready)
    · exact henter.trans (modSlot_keepsLaws _ i _ (.of_same rfl rfl rfl rfl))

/-- A slot is given only for a key that no slot walks yet (R42, R43). -/
theorem giveSlot_keepsLaws (i : SlotId) (p : Port) (k : Key) (m : Bool) (h : s.walkingSlot k = none) : KeepsLaws s (s.giveSlot i p k m) := by
  simp only [State.giveSlot]
  generalize hw : ({ WalkSlot.empty with
      phase := .descriptor, key := k, origin := p, tableBase := (s.anchor k.space).base
      setModified := m, waiters := [⟨p, m⟩] } : WalkSlot) = w
  have hnew : KeepsLaws s (({ s with walksStarted := s.walksStarted + 1 } : State).modSlot i fun _ => w) :=
    (modSlot_keepsLaws_of_new _ i w (by rw [← hw]; exact h) (by rw [← hw]; rfl)).from_blocks rfl
  refine hnew.trans ((enterPhase_keepsLaws _ i _ _ ?_).from_blocks rfl)
  rw [slot_modEngine, slot_modSlot_self, ← hw]
  rfl

theorem walkerTakes_keepsLaws (p : Port) : KeepsLaws s (s.walkerTakes p) := by
  simp only [State.walkerTakes]
  split
  · exact joinSlot_keepsLaws s _ p _
  · rename_i hnone _
    exact giveSlot_keepsLaws s _ p _ _ hnone
  · exact .of_blocks rfl

theorem repeatLookup_keepsLaws (p : Port) (e : WaitEntry) : KeepsLaws s (s.repeatLookup p e) :=
  (lookup_keepsLaws s e.key e.needsModified).trans (.of_blocks rfl)

theorem answerOffer_keepsLaws (p : Port) (i : SlotId) (e : WaitEntry) (l : Lookup) : KeepsLaws s (s.answerOffer p i e l) := by
  have hleave : KeepsLaws s ((s.leaveWaitList p).withdrawOffer p) := (withdrawOffer_keepsLaws _ p).from_blocks rfl
  simp only [State.answerOffer]
  split
  · exact hleave.trans (translated_keepsLaws _ p _)
  · split
    · exact hleave.trans (joinSlot_keepsLaws _ _ p _)
    · rename_i hnone
      exact hleave.trans (giveSlot_keepsLaws _ i p _ _ hnone)

theorem descriptorDone_keepsLaws (i : SlotId) (res : OpResult) (h : (s.slot i).busy = true) : KeepsLaws s (s.descriptorDone i res) := by
  simp only [State.descriptorDone]
  split
  · split
    · exact endWalk_keepsLaws s i _
    · refine (modSlot_keepsLaws s i _ (.of_same rfl rfl rfl rfl)).trans (enterPhase_keepsLaws _ i .map _ ?_)
      rw [slot_modSlot_self]
      exact h
  · exact endWalk_keepsLaws s i _

/-! ### Locks and fences -/

theorem passLock_blocks (n : LockId) (p : Port) : (s.passLock n p).blocks = s.blocks := blocks_of_butLocks (passLock_keeps s n p)

theorem occurrence_blocks (c : AlertCause) (p : Port) (a : Option (BitVec 32)) : (s.occurrence c p a).blocks = s.blocks :=
  blocks_of_butLatches (occurrence_keeps s c p a)

theorem fenceLeaves_blocks (p : Port) : (s.fenceLeaves p).blocks = s.blocks := by
  unfold State.fenceLeaves
  split <;> rfl

theorem fenceTest_blocks : s.fenceTest.blocks = s.blocks := by
  unfold State.fenceTest
  split
  · split <;> rfl
  · rfl
  · rfl

theorem takeLock_blocks (p : Port) (tag : Tag) (n : Byte) : (s.takeLock p tag n).blocks = s.blocks := by
  simp only [State.takeLock]
  split
  · rfl
  · split
    · rfl
    · split
      · rfl
      · split <;> rfl

theorem takeUnlock_blocks (p : Port) (tag : Tag) (n : Byte) : (s.takeUnlock p tag n).blocks = s.blocks := by
  unfold State.takeUnlock
  split
  · rfl
  · split
    · exact Eq.trans rfl (passLock_blocks s _ p)
    · rfl

theorem takeLockWithdraw_blocks (p : Port) (tag : Tag) (n : Byte) : (s.takeLockWithdraw p tag n).blocks = s.blocks := by
  simp only [State.takeLockWithdraw]
  split
  · rfl
  · split <;> rfl

theorem takeLockQuery_blocks (p : Port) (tag : Tag) (n : Byte) : (s.takeLockQuery p tag n).blocks = s.blocks := by
  simp only [State.takeLockQuery]
  split <;> rfl

theorem takeSetLock_blocks (p : Port) (tag : Tag) (n : Byte) (lease : BitVec 16) : (s.takeSetLock p tag n lease).blocks = s.blocks := by
  unfold State.takeSetLock
  split
  · rfl
  · split <;> rfl

/-! ### Administration -/

theorem takeSetAnchor_keepsLaws (p : Port) (tag : Tag) (space : Byte) (base : BitVec 32) (length : BitVec 16) (mask : BitVec 8) :
    KeepsLaws s (s.takeSetAnchor p tag space base length mask) := by
  unfold State.takeSetAnchor
  split
  · exact .of_blocks rfl
  · split
    · rename_i i _ _
      have hpurge : KeepsLaws s (({ s with anchors := s.anchors.set i { base, length := length.toNat, mask } } : State).purge
          fun k => k.space.toNat == i.val) := (purge_keepsLaws _ _).from_blocks rfl
      exact hpurge.trans (.of_blocks rfl)
    · exact .of_blocks rfl

theorem takePurge_keepsLaws (p : Port) (tag : Tag) (scope space : Byte) (segment page : BitVec 16) :
    KeepsLaws s (s.takePurge p tag scope space segment page) := by
  unfold State.takePurge
  split
  · exact .of_blocks rfl
  · exact (purge_keepsLaws s _).trans (.of_blocks rfl)

theorem takeSetWindow_blocks (p : Port) (tag : Tag) (window kind : Byte) (base limit target : BitVec 16) :
    (s.takeSetWindow p tag window kind base limit target).blocks = s.blocks := by
  unfold State.takeSetWindow
  split
  · split <;> rfl
  · rfl

/-- SET_POOL leaves UNSET with a pool top of 1 to 4096 MiB (R75). -/
theorem takeSetPool_keepsLaws (p : Port) (tag : Tag) (size : BitVec 16) : KeepsLaws s (s.takeSetPool p tag size) := by
  unfold State.takeSetPool
  split
  · exact .of_blocks rfl
  · rename_i hsize
    split
    · exact .of_blocks rfl
    · rename_i hunset
      simp only [Bool.or_eq_true, decide_eq_true_eq, not_or] at hsize
      refine ⟨id, id, fun ⟨_, _, _, _, hempty, hnear, hpool⟩ => ?_⟩
      have hstate : s.pool.state = .unset := by simpa using hunset
      refine ⟨nofun, fun _ => ?_, ?_, Nat.mul_mod_left _ _, fun _ => hempty (by simp [hstate]), hnear, hpool⟩
      · show Config.mebibyte ≤ size.toNat * Config.mebibyte
        exact Nat.le_mul_of_pos_left _ (by omega)
      · show size.toNat * Config.mebibyte ≤ 2 ^ 32
        exact Nat.mul_le_mul_right Config.mebibyte (Nat.le_of_not_lt hsize.2)

theorem takeSetPort_blocks (p : Port) (tag : Tag) (port cls c h : Byte) (t : BitVec 16) :
    (s.takeSetPort p tag port cls c h t).blocks = s.blocks := by
  unfold State.takeSetPort
  split
  · split
    · rfl
    · split <;> rfl
  · rfl

theorem takeFence_blocks (p : Port) (tag : Tag) (set : BitVec 8) : (s.takeFence p tag set).blocks = s.blocks := by
  unfold State.takeFence
  split
  · rfl
  · split
    · rfl
    · split <;> rfl

theorem takeUnfence_blocks (p : Port) (tag : Tag) : (s.takeUnfence p tag).blocks = s.blocks := by
  unfold State.takeUnfence
  split <;> rfl

theorem takeSetTimebase_blocks (p : Port) (tag : Tag) (divide : BitVec 16) : (s.takeSetTimebase p tag divide).blocks = s.blocks := by
  unfold State.takeSetTimebase
  split <;> rfl

theorem takeCounters_blocks (p : Port) (tag : Tag) (clear : Byte) : (s.takeCounters p tag clear).blocks = s.blocks := by
  unfold State.takeCounters
  split
  · rfl
  · split <;> rfl

theorem takeAlertClear_blocks (p : Port) (tag : Tag) (cause : Byte) : (s.takeAlertClear p tag cause).blocks = s.blocks := by
  unfold State.takeAlertClear
  split <;> rfl

theorem takeDeviceReset_blocks (p : Port) (tag : Tag) : (s.takeDeviceReset p tag).blocks = s.blocks := by
  unfold State.takeDeviceReset
  split <;> rfl

/-! ### Resets -/

/-- Marking the results of a port for discard changes no number of operations (R82). -/
theorem discardFor_keepsLaws (p : Port) :
    KeepsLaws s { s with nearArbiter := s.nearArbiter.discardFor p, poolArbiter := s.poolArbiter.discardFor p } :=
  .of_arbiters rfl fun ⟨_, _, _, _, hempty, hnear, hpool⟩ => by
    refine ⟨fun hr => ?_, by simpa [Arbiter.discardFor] using hnear, by simpa [Arbiter.discardFor] using hpool⟩
    simpa [Arbiter.discardFor] using hempty hr

theorem clearPort_keepsLaws (p : Port) : KeepsLaws s (s.clearPort p) :=
  have hwalker : KeepsLaws s ((s.modPort p PortRec.beginReset).walkerLeaves p) := (walkerLeaves_keepsLaws _ p).from_blocks rfl
  hwalker.trans <| (discardFor_keepsLaws _ p).trans <| (KeepsLaws.of_blocks (blocks_of_butLocks (locksLeave_keeps _ p))).trans <|
    .of_blocks (fenceLeaves_blocks _ p)

theorem beginDeviceReset_keepsLaws : KeepsLaws s s.beginDeviceReset := by
  have hwithdraw : KeepsLaws s { s with
      deviceReset := .draining
      nearArbiter := { s.nearArbiter with waiting := [] }, poolArbiter := { s.poolArbiter with waiting := [] } } :=
    .of_arbiters rfl fun ⟨_, _, _, _, hempty, hnear, hpool⟩ => ⟨fun hr => ⟨rfl, (hempty hr).2⟩, hnear, hpool⟩
  exact hwithdraw.trans ((mapSlots_keepsLaws _ (fun w => { w with waitingReady := false }) fun _ => .of_same rfl rfl rfl rfl).from_blocks rfl)

theorem beginIfAnnounced_keepsLaws (p : Port) : KeepsLaws s (s.beginIfAnnounced p) := by
  unfold State.beginIfAnnounced
  split
  · exact beginDeviceReset_keepsLaws s
  · exact .refl s

theorem takePortReset_keepsLaws (p : Port) (tag : Tag) (port : Byte) : KeepsLaws s (s.takePortReset p tag port) := by
  simp only [State.takePortReset]
  split
  · exact .of_blocks rfl
  · split
    · exact .of_blocks rfl
    · split
      · exact .of_blocks rfl
      · exact ((clearPort_keepsLaws _ _).trans (beginIfAnnounced_keepsLaws _ _)).from_blocks rfl
      · exact .of_blocks rfl

/-- The walk slots after power-on are all FREE and offered to none. -/
theorem walkLaw_of_powerOn {s : State} (h : s.walker = Walker.powerOn) : s.WalkLaw := by
  have hslot : ∀ i : SlotId, s.slot i = WalkSlot.empty := fun i => by
    rw [State.slot, h]
    exact Vector.getElem_replicate _
  refine ⟨fun i j hb => ?_, fun i _ => ?_⟩
  · rw [hslot] at hb
    cases hb
  · rw [hslot]
    rfl

/-- The sets of the cache after power-on hold no entry. -/
theorem cacheLaw_of_powerOn {s : State} (h : s.cache = Vector.replicate 128 CacheSet.powerOn) : s.CacheLaw := by
  intro i
  have hset : s.cache[i] = CacheSet.powerOn := by
    rw [h]
    exact Vector.getElem_replicate _
  rw [hset]
  exact ⟨nofun, nofun, nofun⟩

/-- The end of a device reset brings the cache, the walker and the arbiters to their power-on values and leaves the pool (R187). -/
theorem endDeviceReset_keepsLaws : KeepsLaws s s.endDeviceReset where
  cache _ := cacheLaw_of_powerOn rfl
  walk _ := walkLaw_of_powerOn rfl
  pool := fun ⟨hunset, hset, hmax, hmod, _⟩ => ⟨hunset, hset, hmax, hmod, fun _ => ⟨rfl, rfl⟩, Nat.zero_le _, Nat.zero_le _⟩

theorem restArbiters_keepsLaws : KeepsLaws s s.restArbiters := by
  unfold State.restArbiters
  split
  · exact .of_arbiters rfl fun _ => ⟨fun _ => ⟨rfl, rfl⟩, Nat.zero_le _, Nat.zero_le _⟩
  · exact .refl s

theorem restWalker_keepsLaws : KeepsLaws s s.restWalker := by
  unfold State.restWalker
  split
  · exact .refl s
  · exact ⟨id, fun _ => walkLaw_of_powerOn rfl, id⟩

theorem tryEndDeviceReset_keepsLaws : KeepsLaws s s.tryEndDeviceReset := by
  unfold State.tryEndDeviceReset
  split
  · split
    · exact endDeviceReset_keepsLaws s
    · exact (restArbiters_keepsLaws s).trans (restWalker_keepsLaws _)
  · exact .refl s

/-! ### The taking of a request and the settling of an event -/

theorem carryOut_keepsLaws (p : Port) (tag : Tag) (ops : Operands) : KeepsLaws s (s.carryOut p tag ops) := by
  cases ops with
  | read | write | probe | physRead | physWrite => exact beginAccess_or_refused_keepsLaws s _ p _ tag _ _
  | lock => exact .of_blocks (takeLock_blocks s p tag _)
  | unlock => exact .of_blocks (takeUnlock_blocks s p tag _)
  | lockWithdraw => exact .of_blocks (takeLockWithdraw_blocks s p tag _)
  | lockQuery => exact .of_blocks (takeLockQuery_blocks s p tag _)
  | setLock => exact .of_blocks (takeSetLock_blocks s p tag _ _)
  | setAnchor => exact takeSetAnchor_keepsLaws s p tag _ _ _ _
  | purge => exact takePurge_keepsLaws s p tag _ _ _ _
  | setWindow => exact .of_blocks (takeSetWindow_blocks s p tag _ _ _ _ _)
  | setPool => exact takeSetPool_keepsLaws s p tag _
  | setPort => exact .of_blocks (takeSetPort_blocks s p tag _ _ _ _ _)
  | fence => exact .of_blocks (takeFence_blocks s p tag _)
  | unfence => exact .of_blocks (takeUnfence_blocks s p tag)
  | portReset => exact takePortReset_keepsLaws s p tag _
  | setTimebase => exact .of_blocks (takeSetTimebase_blocks s p tag _)
  | counters => exact .of_blocks (takeCounters_blocks s p tag _)
  | alertClear => exact .of_blocks (takeAlertClear_blocks s p tag _)
  | deviceReset => exact .of_blocks (takeDeviceReset_blocks s p tag)
  | malformed => exact .of_blocks rfl

theorem takeRequest_keepsLaws (p : Port) : KeepsLaws s (s.takeRequest p) := by
  unfold State.takeRequest State.examine
  split
  · exact .refl s
  · split
    · exact .of_blocks rfl
    · split
      · exact .of_blocks rfl
      · exact (carryOut_keepsLaws _ p _ _).from_blocks rfl

theorem housekeep_keepsLaws : KeepsLaws s s.housekeep := by
  have hresets : KeepsLaws s s.tryEndDeviceReset.finishResets :=
    (tryEndDeviceReset_keepsLaws s).trans (.of_blocks (blocks_of_butPorts (finishResets_keeps _)))
  simp only [State.housekeep]
  split
  · exact hresets
  · exact hresets.trans ((offerSlots_keepsLaws _).trans (.of_blocks (fenceTest_blocks _)))

theorem settle_keepsLaws (n : Nat) : KeepsLaws s (State.settle n s) :=
  settle_keeps (P := KeepsLaws s) (fun t h => h.trans (housekeep_keepsLaws t))
    (fun t h => h.trans (.of_blocks (blocks_of_butPorts (reportAll_keeps t)))) (fun t h => h.trans (arbitersTake_keepsLaws t))
    (fun t p h => h.trans (takeRequest_keepsLaws t p)) (fun _ _ h => h.trans (.of_blocks rfl)) n s (.refl s)

/-- An event whose effect keeps the laws keeps them whole. -/
theorem event_keepsLaws {s t : State} {effect : State → State} (h : s.event effect = .next t) (he : ∀ u, KeepsLaws u (effect u)) :
    KeepsLaws s t := event_keeps h (.refl s) (he s) fun u hu => hu.trans (settle_keepsLaws u _)

/-! ### Frames, links and transmissions -/

theorem discardFrame_blocks (p : Port) : (s.discardFrame p).blocks = s.blocks := (occurrence_blocks _ _ p _).trans rfl

theorem admitRequest_blocks (p : Port) (r : Request) : (s.admitRequest p r).blocks = s.blocks := by
  unfold State.admitRequest
  split
  · rfl
  · split
    · rfl
    · exact (occurrence_blocks _ _ p _).trans rfl

theorem acceptFrame_blocks (p : Port) (r : Request) : (s.acceptFrame p r).blocks = s.blocks := by
  unfold State.acceptFrame
  split
  · rfl
  · exact admitRequest_blocks s p r

theorem arrive_blocks (p : Port) (r : Request) : (s.arrive p r).blocks = s.blocks := by
  unfold State.arrive
  split
  · split
    · exact discardFrame_blocks s p
    · exact acceptFrame_blocks s p r
  · rfl

theorem arriveBytes_blocks (p : Port) (bytes : List Byte) : (s.arriveBytes p bytes).blocks = s.blocks := by
  unfold State.arriveBytes
  split
  · split
    · exact acceptFrame_blocks s p _
    · exact discardFrame_blocks s p
  · rfl

theorem requestEvent_keepsLaws {s t : State} {i : Instr} (h : s.requestEvent i = .next t) : KeepsLaws s t := by
  unfold State.requestEvent at h
  split at h
  · exact event_keepsLaws h fun u => .of_blocks (arrive_blocks u _ _)
  · cases h
    exact .refl s

theorem linkDownReport_keepsLaws (p : Port) : KeepsLaws s (s.linkDownReport p) := by
  simp only [State.linkDownReport]
  split
  · exact .refl s
  · split
    · exact .of_blocks rfl
    · split
      · exact ((clearPort_keepsLaws _ p).trans ((beginIfAnnounced_keepsLaws _ p).from_blocks (occurrence_blocks _ _ p _))).from_blocks rfl
      · exact .of_blocks ((occurrence_blocks _ _ p _).trans rfl)
      · exact .of_blocks rfl

theorem transmissionDone_keepsLaws (p : Port) : KeepsLaws s (s.transmissionDone p) := by
  simp only [State.transmissionDone]
  split
  · exact .refl s
  · split
    · exact (beginDeviceReset_keepsLaws _).from_blocks rfl
    · exact .of_blocks rfl

/-! ### Memory events and the walker's own events -/

theorem dataErrorOccurrence_blocks (p : Port) (res : OpResult) : (s.dataErrorOccurrence p res).blocks = s.blocks := by
  cases res with
  | dataError a => exact occurrence_blocks s _ p _
  | bytes | entry | written => rfl

theorem engineOpComplete_keepsLaws (p : Port) : KeepsLaws s (s.engineOpComplete p) := by
  simp only [State.engineOpComplete]
  split
  · rename_i res op t hop
    have hdone := completeOp_keepsLaws hop
    split
    · exact hdone
    · have herror := hdone.trans (.of_blocks (dataErrorOccurrence_blocks t p res))
      split
      · exact herror
      · exact herror.trans ((arbiterRace_keepsLaws _).trans (operationDone_keepsLaws _ p _))
  · exact .refl s

theorem leavePoolWait_keepsLaws (p : Port) : KeepsLaws s (s.leavePoolWait p) := by
  simp only [State.leavePoolWait]
  split
  · split
    · split
      · exact .of_blocks rfl
      · exact issue_keepsLaws s p
    · exact .refl s
  · exact .refl s

theorem leavePoolWait_pool (p : Port) : (s.leavePoolWait p).pool = s.pool := by
  simp only [State.leavePoolWait]
  split
  · split
    · split
      · rfl
      · exact (congrArg State.pool (issue_keeps s p) :)
    · rfl
  · rfl

theorem placeOp_pool (t : Target) (op : MemOp) : (s.placeOp t op).pool = s.pool := setArbiter_pool s t _

theorem leaveReadyWait_keepsLaws (i : SlotId) (h : s.pool.state = .ready) : KeepsLaws s (s.leaveReadyWait i) := by
  unfold State.leaveReadyWait
  split
  · exact (modSlot_keepsLaws s i _ (.of_same rfl rfl rfl rfl)).trans (placeOp_keepsLaws _ .external _ fun _ _ => h)
  · exact .refl s

theorem leaveReadyWait_pool (i : SlotId) : (s.leaveReadyWait i).pool = s.pool := by
  unfold State.leaveReadyWait
  split
  · exact placeOp_pool _ _ _
  · rfl

theorem poolBecomesReady_keepsLaws : KeepsLaws s s.poolBecomesReady := by
  simp only [State.poolBecomesReady]
  split
  · rename_i hfill
    have hready : KeepsLaws s { s with pool := { s.pool with state := .ready, cells := [], failed := [] } } :=
      ⟨id, id, fun ⟨_, hset, hmax, hmod, _, hnear, hpool⟩ =>
        ⟨nofun, fun _ => hset (by simp [hfill]), hmax, hmod, fun h => absurd rfl h, hnear, hpool⟩⟩
    generalize ht : ({ s with pool := { s.pool with state := .ready, cells := [], failed := [] } } : State) = t at hready ⊢
    have hstate : t.pool.state = .ready := by rw [← ht]
    split
    · exact hready
    · have hports : KeepsLaws t (allPorts.foldl State.leavePoolWait t) :=
        .foldl (Q := fun _ => True) (fun u p _ => leavePoolWait_keepsLaws u p) (fun _ _ _ => trivial) allPorts t trivial
      have hpool : (allPorts.foldl State.leavePoolWait t).pool = t.pool := foldl_keeps State.pool _ leavePoolWait_pool allPorts t
      refine hready.trans (hports.trans ?_)
      exact .foldl (Q := fun u => u.pool.state = .ready) (fun u i hu => leaveReadyWait_keepsLaws u i hu)
        (fun u i hu => by rw [leaveReadyWait_pool]; exact hu) allSlots _ (by rw [hpool]; exact hstate)
  · exact .refl s

theorem disturb_blocks (a : PhysAddress) : (s.disturb a).blocks = s.blocks := by
  unfold State.disturb
  split <;> rfl

theorem walkRequested_keepsLaws (p : Port) : KeepsLaws s (s.walkRequested p) := by
  unfold State.walkRequested
  split
  · exact walkerTakes_keepsLaws s p
  · exact .refl s

theorem offeredLooks_keepsLaws (p : Port) : KeepsLaws s (s.offeredLooks p) := by
  unfold State.offeredLooks
  split
  · split
    · exact repeatLookup_keepsLaws s p _
    · exact .refl s
  · exact .refl s

theorem offerAnswered_keepsLaws (p : Port) : KeepsLaws s (s.offerAnswered p) := by
  unfold State.offerAnswered
  split
  · split
    · split
      · exact .refl s
      · exact answerOffer_keepsLaws s p _ _ _
    · exact .refl s
  · exact .refl s

theorem descriptorComplete_keepsLaws (i : SlotId) : KeepsLaws s (s.descriptorComplete i) := by
  unfold State.descriptorComplete
  split
  · rename_i t hop
    have hdone := completeOp_keepsLaws hop
    split
    · exact .refl s
    · rename_i hphase
      split
      · exact hdone
      · refine hdone.trans ((arbiterRace_keepsLaws _).trans (descriptorDone_keepsLaws _ i _ ?_))
        simp only [Bool.or_eq_true, bne_iff_ne, not_or, not_not] at hphase
        rw [slot_arbiterRace, slot_of_completeOp hop, WalkSlot.busy, hphase.2]
        rfl
  · exact .refl s

theorem mapComplete_keepsLaws (i : SlotId) : KeepsLaws s (s.mapComplete i) := by
  unfold State.mapComplete
  split
  · rename_i hop
    have hdone := completeOp_keepsLaws hop
    split
    · split
      · exact .refl s
      · split
        · exact hdone
        · exact hdone.trans ((arbiterRace_keepsLaws _).trans (endWalk_keepsLaws _ i _))
    · exact .refl s
  · exact .refl s

/-! ### Time -/

theorem tick_blocks : s.tick.blocks = s.blocks := by
  simp only [State.tick, State.deliverTick]
  split
  · rfl
  · split
    · exact (blocks_of_butLeases (tickInOrder_keeps _ _)).trans rfl
    · exact (blocks_of_butPorts (timersTick_keeps _)).trans ((blocks_of_butLeases (leaseTick_keeps _)).trans rfl)

theorem tick_if_keepsLaws (c : Prop) [Decidable c] : KeepsLaws s (if c then s.tick else s) := by
  split
  · exact .of_blocks (tick_blocks s)
  · exact .refl s

theorem clockPeriod_keepsLaws : KeepsLaws s s.clockPeriod := by
  unfold State.clockPeriod
  split
  · exact .of_blocks (tick_blocks s)
  · exact .of_blocks rfl

/-! ### Power -/

theorem stopped_keepsLaws : KeepsLaws s s.stopped := by
  have hempty : KeepsLaws s { s with
      power := .held
      nearArbiter := { s.nearArbiter with waiting := [], taken := [] }, poolArbiter := { s.poolArbiter with waiting := [], taken := [] } } :=
    .of_arbiters rfl fun _ => ⟨fun _ => ⟨rfl, rfl⟩, Nat.zero_le _, Nat.zero_le _⟩
  exact hempty.trans (.of_blocks rfl)

theorem startingUp_keepsLaws : KeepsLaws s s.startingUp where
  cache _ := cacheLaw_of_powerOn rfl
  walk _ := walkLaw_of_powerOn rfl
  pool _ := ⟨fun _ => rfl, fun h => absurd rfl h, Nat.zero_le _, rfl, fun _ => ⟨rfl, rfl⟩, Nat.zero_le _, Nat.zero_le _⟩

theorem startUpReport_blocks (p : Port) : (s.startUpReport p).blocks = s.blocks := by
  unfold State.startUpReport
  split <;> rfl

theorem started_blocks : s.started.blocks = s.blocks := (foldl_keeps State.blocks _ startUpReport_blocks allPorts _).trans rfl

/-! ### Every step -/

/-- A command that carries a request is the arrival of the request (log 1). -/
theorem exec_eq_requestEvent {c : Instr} (h : c.request.isSome = true) (s : State) : exec c s = s.requestEvent c := by
  cases c with
  | powerOnResetAssert | powerOnResetRelease | startUpEnd | linkUp | linkDown | requestAdmission | walkRequest | offeredLookup
  | offerAnswer | descriptorReadComplete | mapUpdateComplete | memoryOperationComplete | poolReady | byteDisturbance | timebaseTick
  | leaseExpiry | coalescingTimerExpiry | transmissionComplete | referenceClockPeriod => cases h
  | _ => rfl

/-- Every command keeps the laws: its arrival, its effect, and what follows at the same event. -/
theorem exec_keepsLaws {s t : State} {c : Instr} (h : exec c s = .next t) : KeepsLaws s t := by
  cases c with
  | powerOnResetAssert =>
      cases h
      exact stopped_keepsLaws s
  | powerOnResetRelease =>
      cases h
      split
      · exact startingUp_keepsLaws s
      · exact .refl s
  | startUpEnd =>
      cases h
      split
      · exact .of_blocks (started_blocks s)
      · exact .refl s
  | linkUp p =>
      simp only [exec, execLinkUp] at h
      split at h
      · cases h
        exact .of_blocks rfl
      · exact event_keepsLaws h fun _ => .of_blocks rfl
  | linkDown p =>
      simp only [exec, execLinkDown] at h
      split at h
      · cases h
        exact .of_blocks rfl
      · exact event_keepsLaws h fun u => linkDownReport_keepsLaws u p
  | requestAdmission p frame => exact event_keepsLaws (effect := fun u => u.arriveBytes p frame) h fun u => .of_blocks (arriveBytes_blocks u p frame)
  | batchAck | malformedRequest | read | write | probe | physRead | physWrite | lock | unlock | lockWithdraw | lockQuery | setLock
  | setAnchor | purge | setWindow | setPool | setPort | fence | unfence | portReset | setTimebase | counters | alertClear
  | deviceReset => exact requestEvent_keepsLaws ((exec_eq_requestEvent rfl s).symm.trans h)
  | walkRequest p => exact event_keepsLaws (effect := fun u => u.walkRequested p) h fun u => walkRequested_keepsLaws u p
  | offeredLookup p => exact event_keepsLaws (effect := fun u => u.offeredLooks p) h fun u => offeredLooks_keepsLaws u p
  | offerAnswer p => exact event_keepsLaws (effect := fun u => u.offerAnswered p) h fun u => offerAnswered_keepsLaws u p
  | descriptorReadComplete i => exact event_keepsLaws (effect := fun u => u.descriptorComplete i) h fun u => descriptorComplete_keepsLaws u i
  | mapUpdateComplete i => exact event_keepsLaws (effect := fun u => u.mapComplete i) h fun u => mapComplete_keepsLaws u i
  | memoryOperationComplete p => exact event_keepsLaws (effect := fun u => u.engineOpComplete p) h fun u => engineOpComplete_keepsLaws u p
  | poolReady => exact event_keepsLaws (effect := fun u => u.poolBecomesReady) h poolBecomesReady_keepsLaws
  | byteDisturbance a => exact event_keepsLaws (effect := fun u => u.disturb a) h fun u => .of_blocks (disturb_blocks u a)
  | timebaseTick => exact event_keepsLaws (effect := fun u => if u.tickDue then u.tick else u) h fun u => tick_if_keepsLaws u _
  | leaseExpiry n =>
      exact event_keepsLaws (effect := fun u => if u.tickTaken && (u.lock n).expiresNext then u.tick else u) h
        fun u => tick_if_keepsLaws u _
  | coalescingTimerExpiry p =>
      exact event_keepsLaws (effect := fun u => if u.tickTaken && (u.port p).timer.expiresNext then u.tick else u) h
        fun u => tick_if_keepsLaws u _
  | transmissionComplete p => exact event_keepsLaws (effect := fun u => u.transmissionDone p) h fun u => transmissionDone_keepsLaws u p
  | referenceClockPeriod => exact event_keepsLaws (effect := fun u => u.clockPeriod) h clockPeriod_keepsLaws

/-- Settles O59: the front command keeps the three laws, and so does idling. -/
theorem blockLawsAreKept : Obligations.BlockLawsAreKept := by
  intro s t h
  have hkeeps : KeepsLaws s t := by
    unfold step at h
    split at h
    · cases h
      exact .refl s
    · exact (exec_keepsLaws h).from_blocks rfl
  exact ⟨hkeeps.cache, hkeeps.walk, hkeeps.pool⟩

end Sys2Proof.Machine
end

section
/-! PROOFS. A request answered by a DONE record at the event of its arrival, and the answer of PURGE (R36, R37, R88, R191). -/

namespace Sys2Proof.Machine

/-! ### What follows a DONE reply at a ready port -/

theorem replied_engaged {x : PortRec} (h : x.requestQueue = []) (r : Request) (tag : Tag) (st : Status) (value : Option (BitVec 32)) :
    (x.engaged r).replyDone tag st none none none value = x.replied tag st value := by
  cases hst : st.isFaulted <;>
    simp [PortRec.replyDone, PortRec.replied, PortRec.engaged, PortRec.countReply, PortRec.addRecord, h, hst]

theorem state_replied (x : PortRec) (tag : Tag) (st : Status) (value : Option (BitVec 32)) : (x.replied tag st value).state = x.state := by
  cases hst : st.isFaulted <;> simp [PortRec.replied, PortRec.replyDone, PortRec.countReply, PortRec.addRecord, hst]

/-- An ACTIVE port with a record in its queue is not idle for a fence (R154, R167). -/
theorem fenceIdle_replied {x : PortRec} (h : x.state = .active) (tag : Tag) (st : Status) (value : Option (BitVec 32)) :
    (x.replied tag st value).fenceIdle = false := by
  cases hst : st.isFaulted <;>
    simp [PortRec.fenceIdle, PortRec.idleReport, PortRec.replied, PortRec.replyDone, PortRec.countReply, PortRec.addRecord, h, hst]

/-- A fence that is not met is not met after a change by which no port becomes idle for it (R167). -/
theorem fenceMet_eq_false_of {s t : State} (hs : s.fenceMet = false) (hf : t.fence = s.fence)
    (h : ∀ q : Port, (t.port q).fenceIdle = true → (s.port q).fenceIdle = true) : t.fenceMet = false := by
  unfold State.fenceMet at hs ⊢
  rw [hf]
  generalize s.fence = fence at hs ⊢
  cases fence with
  | none => rfl
  | held => rfl
  | pending owner tag set =>
      simp only [List.all_eq_false, Bool.or_eq_true, Bool.not_eq_true'] at hs ⊢
      obtain ⟨q, hq, hbusy⟩ := hs
      exact ⟨q, hq, fun hc => hbusy (hc.imp id (h q))⟩

theorem fenceMet_replied {s : State} {p : Port} (hactive : (s.port p).state = .active) (tag : Tag) (st : Status)
    (value : Option (BitVec 32)) (h : s.fenceMet = false) : (s.modPort p fun x => x.replied tag st value).fenceMet = false := by
  refine fenceMet_eq_false_of h rfl fun q hq => ?_
  rw [port_modPort] at hq
  split at hq
  · subst_vars
    rw [fenceIdle_replied hactive] at hq
    cases hq
  · exact hq

/-- After a DONE reply to a request taken at the event of its arrival at a ready port, the port's transmitter chooses, and nothing else follows (R138, R148). -/
theorem replied_settled {s : State} {p : Port} (h : s.Ready p) (tag : Tag) (st : Status) (value : Option (BitVec 32)) :
    (s.modPort p fun x => x.replied tag st value).housekeep.dispatchWork = s.answered p tag st value := by
  obtain ⟨⟨_, hdrain, ⟨_, hnear, hext, hwork, _⟩, _⟩, hactive, _⟩ := h
  obtain ⟨htransmit, hreset, hoffer, hfence⟩ := hwork hdrain
  have hidle : (s.modPort p fun x => x.replied tag st value).housekeep = s.modPort p fun x => x.replied tag st value := by
    refine housekeep_of_idle (s := s.modPort p fun x => x.replied tag st value) hdrain (fun q hq => hreset q ?_) hoffer
      (fenceMet_replied hactive tag st value hfence)
    rw [port_modPort] at hq
    split at hq
    · rwa [state_replied] at hq
    · exact hq
  have hchoose : (s.modPort p fun x => x.replied tag st value).reportAll = s.answered p tag st value := by
    rw [reportAll_eq_modPort (s := s.modPort p fun x => x.replied tag st value) hdrain p fun q hq => by
      rw [port_modPort_of_ne s (Ne.symm hq)]; exact htransmit q]
    exact modPort_modPort s p _ _
  rw [hidle, State.dispatchWork, hchoose]
  exact arbitersTake_of_not_ready hnear hext

/-- The DONE reply to a request just taken at a ready port, and what follows it. -/
theorem replyDone_settled {s : State} {p : Port} (h : s.Ready p) (r : Request) (tag : Tag) (st : Status) (value : Option (BitVec 32)) :
    ((s.modPort p fun x => x.engaged r).modPort p fun x => x.replyDone tag st none none none value).housekeep.dispatchWork =
      s.answered p tag st value := by
  obtain ⟨⟨_, _, _, hqueue⟩, _⟩ := id h
  have hreply : ((s.modPort p fun x => x.engaged r).modPort p fun x => x.replyDone tag st none none none value) =
      s.modPort p fun x => x.replied tag st value := by
    rw [modPort_modPort, State.modPort, State.modPort, replied_engaged (hqueue p)]
  rw [hreply, replied_settled h]

/-- A request command at a ready port: its request is taken at once, its rule is carried out, and what follows at the event is done (R88, R89). -/
theorem exec_request {s : State} {p : Port} {c : Instr} {r : Request} {ops : Operands} (h : s.Ready p) (hc : c.request = some (p, r))
    (hlen : r.payload.length ≤ Config.payloadLimit) (hops : readOperands r = some ops)
    (hcls : ops.administrative = false ∨ (s.port p).cls = .administrative) :
    exec c s = .next (((s.modPort p fun x => x.engaged r).carryOut p r.tag ops).housekeep.dispatchWork) := by
  have hkind : (r.kind = batchAckKind && r.payload.isEmpty) = false := by
    by_contra hack
    simp only [Bool.not_eq_false, Bool.and_eq_true, decide_eq_true_eq] at hack
    simp [readOperands, hack.1, batchAckKind] at hops
  have hallowed : (ops.administrative && ((s.modPort p fun x => x.engaged r).port p).cls == .user) = false := by
    rw [port_modPort_self]
    rcases hcls with hcls | hcls <;> simp [PortRec.engaged, hcls]
  rw [exec_eq_requestEvent (by rw [hc]; rfl), State.requestEvent]
  simp only [hc]
  rw [arrival_taken h r hlen hkind, State.examine]
  simp only [hops, hallowed]
  rfl

/-! ### PURGE -/

/-- Two bytes of a payload read back the number they were written from. -/
theorem ofNat_beNat_beBytes_two (v : BitVec 16) : BitVec.ofNat 16 (beNat (beBytes 2 v.toNat)) = v := by
  apply BitVec.eq_of_toNat_eq
  simp only [beBytes, beNat, List.foldl_cons, List.foldl_nil, BitVec.toNat_ofNat]
  omega

theorem readOperands_purge (tag : Tag) (scope space : Byte) (segment page : BitVec 16) :
    readOperands ⟨0x31, tag, [scope, space] ++ beBytes 2 segment.toNat ++ beBytes 2 page.toNat⟩ = some (.purge scope space segment page) := by
  show some (Operands.purge scope space (.ofNat 16 (beNat (beBytes 2 segment.toNat))) (.ofNat 16 (beNat (beBytes 2 page.toNat)))) = _
  rw [ofNat_beNat_beBytes_two, ofNat_beNat_beBytes_two]

/-- Operands that a purge's scope uses and that are out of range, or no scope, name no keys (R36). -/
theorem purgeScope_eq_none {scope space : Byte} {segment page : BitVec 16}
    (h : 3 < scope.toNat ∨ (1 ≤ scope.toNat ∧ 7 < space.toNat) ∨ (2 ≤ scope.toNat ∧ 511 < segment.toNat)
      ∨ (scope.toNat = 3 ∧ 255 < page.toNat)) : purgeScope scope space segment page = none := by
  unfold purgeScope
  split
  · omega
  · simp; omega
  · simp; omega
  · simp; omega
  · rfl

/-- The keys a purge's scope names when the operands it uses are in range (R36, R37). -/
theorem purgeScope_eq_some {scope space : Byte} {segment page : BitVec 16} {matched : Key → Bool}
    (hm : ∀ k : Key, matched k = true ↔
      (scope.toNat = 0 ∨ k.space.toNat = space.toNat) ∧ (scope.toNat ≤ 1 ∨ k.segment.toNat = segment.toNat)
        ∧ (scope.toNat ≤ 2 ∨ k.page.toNat = page.toNat))
    (hscope : scope.toNat ≤ 3) (hspace : 1 ≤ scope.toNat → space.toNat ≤ 7) (hsegment : 2 ≤ scope.toNat → segment.toNat ≤ 511)
    (hpage : scope.toNat = 3 → page.toNat ≤ 255) : purgeScope scope space segment page = some matched := by
  unfold purgeScope
  split
  · rename_i hs
    simp only [hs] at hm
    exact congrArg some (funext fun k => Bool.eq_iff_iff.2 (by simp [hm]))
  · rename_i hs
    simp only [hs] at hm
    rw [if_pos (by simpa using hspace (by omega))]
    exact congrArg some (funext fun k => Bool.eq_iff_iff.2 (by simp [hm]))
  · rename_i hs
    simp only [hs] at hm
    rw [if_pos (by simpa using ⟨hspace (by omega), hsegment (by omega)⟩)]
    exact congrArg some (funext fun k => Bool.eq_iff_iff.2 (by simp [hm]))
  · rename_i hs
    simp only [hs] at hm
    rw [if_pos (by simpa [and_assoc] using ⟨hspace (by omega), hsegment (by omega), hpage hs⟩)]
    exact congrArg some (funext fun k => Bool.eq_iff_iff.2 (by simp [hm, and_assoc]))
  · rename_i h0 h1 h2 h3
    rw [imp_false] at h0 h1 h2 h3
    omega

section
variable (s : State) (scope : Key → Bool)

theorem phase_purge (i : SlotId) : ((s.purge scope).slot i).phase = (s.slot i).phase := by
  rw [slot_purge]
  split <;> rfl

theorem offeredTo_purge (i : SlotId) : ((s.purge scope).slot i).offeredTo = (s.slot i).offeredTo := by
  rw [slot_purge]
  split <;> rfl

theorem nextOffered_purge : (s.purge scope).nextOffered = s.nextOffered := by
  have hoffered : ∀ q, (s.purge scope).isOffered q = s.isOffered q := fun q => by simp only [State.isOffered, offeredTo_purge]
  simp only [State.nextOffered, hoffered]
  rfl

/-- A purge leaves a ready port ready: it frees no slot and withdraws no offer. -/
theorem ready_purge {p : Port} (h : s.Ready p) : (s.purge scope).Ready p := by
  obtain ⟨⟨hpower, hdrain, ⟨htake, hnear, hext, hwork, hreset⟩, hqueue⟩, hable⟩ := h
  refine ⟨⟨hpower, hdrain, ⟨htake, hnear, hext, fun hd => ?_, fun hd => absurd (hdrain.symm.trans hd) Bool.false_ne_true⟩, hqueue⟩, hable⟩
  obtain ⟨htransmit, hresets, hoffer, hfence⟩ := hwork hd
  refine ⟨htransmit, hresets, fun i => ?_, hfence⟩
  rw [phase_purge, offeredTo_purge, nextOffered_purge]
  exact hoffer i

/-- A purge and a change of a port's record do not touch the same. -/
theorem purge_modPort (p : Port) (f : PortRec → PortRec) : (s.modPort p f).purge scope = (s.purge scope).modPort p f := rfl

end

/-- Settles O21: the arrival of the PURGE at a ready port, the keys its operands name, the purge, and the reply. -/
theorem purgeAnswersTheNumber : Obligations.PurgeAnswersTheNumber := by
  intro s p tag scope space segment page hready hcls
  have hexec := exec_request (c := .purge p tag scope space segment page) hready rfl (by simp [beBytes, Config.payloadLimit]) (readOperands_purge tag scope space segment page)
    (.inr hcls)
  rw [hexec, State.carryOut, State.takePurge]
  refine ⟨fun hbad => ?_, fun matched hm hscope hspace hsegment hpage => ?_⟩
  · rw [purgeScope_eq_none hbad]
    exact congrArg _ (replyDone_settled hready _ tag .malformed none)
  · rw [purgeScope_eq_some hm hscope hspace hsegment hpage]
    exact congrArg _ (replyDone_settled (ready_purge s matched hready) _ tag .ok (some (.ofNat 32 (s.purgeCount matched))))

end Sys2Proof.Machine
end

section
/-! PROOFS. The settling of an event ends at rest: housekeeping, the transmitters' choice and the arbiters' taking leave nothing undone (R47, R79, R88, R148, R167, R172, R187; log 1). -/

namespace Sys2Proof.Machine

/-! ### Folds whose steps each bring about a fact of their own -/

/-- Where the step of every element brings about the element's fact and no step undoes one, a fold leaves the fact of every element it went over. -/
theorem foldl_establishes {α : Type} {f : State → α → State} {Q : α → State → Prop} (hmakes : ∀ s a, Q a (f s a))
    (hkeeps : ∀ s a b, Q a s → Q a (f s b)) {l : List α} {a : α} (ha : a ∈ l) (s : State) : Q a (l.foldl f s) := by
  have hrest : ∀ (l : List α) (s : State), Q a s → Q a (l.foldl f s) := fun l => by
    induction l with
    | nil => exact fun _ h => h
    | cons b l ih => exact fun s h => ih (f s b) (hkeeps s a b h)
  induction l generalizing s with
  | nil => cases ha
  | cons b l ih =>
      rcases List.mem_cons.1 ha with rfl | hl
      · exact hrest l _ (hmakes s a)
      · exact ih hl (f s b)

/-! ### The parts of State.AtRest -/

/-- No port reset is done and unreported (R172). -/
abbrev State.ResetsReported (s : State) : Prop := ∀ p : Port, (s.port p).state = .resetting → s.hasOp (.engine p) = true

/-- No FREE slot could be offered (R47). -/
abbrev State.SlotsOffered (s : State) : Prop := ∀ i : SlotId, (s.slot i).phase = .free → (s.slot i).offeredTo = none → s.nextOffered = none

/-- A device reset in progress waits for something, its arbiters and its walker at rest where they can be (R63, R82, R187). -/
abbrev State.ResetWaits (s : State) : Prop :=
  s.drained = false
    ∧ (s.nearArbiter.taken = [] → s.poolArbiter.taken = [] → s.nearArbiter = Arbiter.powerOn ∧ s.poolArbiter = Arbiter.powerOn)
    ∧ (s.walkerOutstanding = false → s.walker = Walker.powerOn ∧ s.walksStarted = 0 ∧ s.staleWalks = 0)

/-! ### One port's record -/

@[simp] theorem state_countReply (r : PortRec) (st : Status) : (r.countReply st).state = r.state := by
  unfold PortRec.countReply
  split <;> rfl

@[simp] theorem requestQueue_countReply (r : PortRec) (st : Status) : (r.countReply st).requestQueue = r.requestQueue := by
  unfold PortRec.countReply
  split <;> rfl

@[simp] theorem transmitter_countReply (r : PortRec) (st : Status) : (r.countReply st).transmitter = r.transmitter := by
  unfold PortRec.countReply
  split <;> rfl

theorem state_resetAnswered (r : PortRec) (p : Port) : (r.resetAnswered p).state = r.state := by
  unfold PortRec.resetAnswered
  split
  · split
    · exact state_countReply _ _
    · rfl
  · rfl

@[simp] theorem state_placePending (r : PortRec) : r.placePending.state = r.state := by
  unfold PortRec.placePending
  split
  · exact state_countReply _ _
  · rfl

@[simp] theorem transmitter_placePending (r : PortRec) : r.placePending.transmitter = r.transmitter := by
  unfold PortRec.placePending
  split
  · exact transmitter_countReply _ _
  · rfl

@[simp] theorem requestQueue_placePending (r : PortRec) : r.placePending.requestQueue = r.requestQueue := by
  unfold PortRec.placePending
  split
  · exact requestQueue_countReply _ _
  · rfl

@[simp] theorem state_beginFrame (r : PortRec) : r.beginFrame.state = r.state := by
  unfold PortRec.beginFrame
  split
  · rfl
  · split <;> rfl

@[simp] theorem requestQueue_beginFrame (r : PortRec) : r.beginFrame.requestQueue = r.requestQueue := by
  unfold PortRec.beginFrame
  split
  · rfl
  · split <;> rfl

/-- A transmitter with a frame to begin begins one (R148). -/
theorem transmitter_beginFrame {r : PortRec} (h : r.canTransmit = true) : r.beginFrame.transmitter.isSome = true := by
  simp only [PortRec.canTransmit, Bool.and_eq_true, Bool.or_eq_true] at h
  obtain ⟨_, hframe⟩ := h
  unfold PortRec.beginFrame
  split
  · rfl
  · rename_i hdue
    cases hslot : r.dataSlot with
    | none => simp [hdue, hslot] at hframe
    | some f => rfl

@[simp] theorem state_report (r : PortRec) : r.report.state = r.state := by
  unfold PortRec.report
  split
  · rw [state_placePending, state_beginFrame]
  · rfl

@[simp] theorem requestQueue_report (r : PortRec) : r.report.requestQueue = r.requestQueue := by
  unfold PortRec.report
  split
  · rw [requestQueue_placePending, requestQueue_beginFrame]
  · rfl

/-- The choice of a transmitter leaves the record as it was, or the transmitter busy (R148). -/
theorem report_eq_or_busy (r : PortRec) : (r.canTransmit = false ∧ r.report = r) ∨ r.report.transmitter.isSome = true := by
  cases h : r.canTransmit with
  | false => exact .inl ⟨rfl, PortRec.report_of_not_canTransmit h⟩
  | true =>
      rw [PortRec.report, if_pos h, transmitter_placePending]
      exact .inr (transmitter_beginFrame h)

theorem canTransmit_report (r : PortRec) : r.report.canTransmit = false := by
  rcases report_eq_or_busy r with ⟨hcannot, hsame⟩ | hbusy
  · rw [hsame, hcannot]
  · simp [PortRec.canTransmit, Option.isSome_iff_ne_none.1 hbusy]

/-- The transmitters' choice makes no port idle for a fence (R154, R167). -/
theorem fenceIdle_of_report {r : PortRec} (h : r.report.fenceIdle = true) : r.fenceIdle = true := by
  rcases report_eq_or_busy r with ⟨_, hsame⟩ | hbusy
  · rwa [hsame] at h
  · simp only [PortRec.fenceIdle, PortRec.idleReport, state_report, Option.isNone_iff_eq_none, Option.isSome_iff_ne_none.1 hbusy,
      Bool.and_eq_true, Bool.or_eq_true, and_false, or_false] at h ⊢
    exact .inl h

section
variable (s : State)

/-! ### Port resets that are done -/

theorem draining_of_butPorts {s t : State} (h : t.butPorts = s.butPorts) : t.draining = s.draining := (congrArg State.draining h :)

theorem hasOp_of_butPorts {s t : State} (h : t.butPorts = s.butPorts) (r : Requester) : t.hasOp r = s.hasOp r :=
  (congrArg (fun u : State => u.hasOp r) h :)

theorem draining_finishReset (p : Port) : (s.finishReset p).draining = s.draining := draining_of_butPorts (finishReset_keeps s p)

theorem draining_finishResets : s.finishResets.draining = s.draining := draining_of_butPorts (finishResets_keeps s)

theorem hasOp_finishReset (p : Port) (r : Requester) : (s.finishReset p).hasOp r = s.hasOp r := hasOp_of_butPorts (finishReset_keeps s p) r

/-- A port reset that is done leaves its port ACTIVE or DOWN, and every other port in its state (R172). -/
theorem resetting_of_resetDone {p q : Port} (h : ((s.resetDone p).port q).state = .resetting) : q ≠ p ∧ (s.port q).state = .resetting := by
  rw [State.resetDone, port_mapPorts, state_resetAnswered] at h
  split at h
  · split at h <;> cases h
  · exact ⟨‹_›, h⟩

theorem resetting_of_finishReset {p q : Port} (h : ((s.finishReset p).port q).state = .resetting) : (s.port q).state = .resetting := by
  unfold State.finishReset at h
  split at h
  · exact (resetting_of_resetDone s h).2
  · exact h

/-- With no device reset in progress every port reset that is done is reported (R172). -/
theorem resetsReported_finishResets (h : s.draining = false) : s.finishResets.ResetsReported := fun p =>
  foldl_establishes (Q := fun p u => u.draining = false → (u.port p).state = .resetting → u.hasOp (.engine p) = true)
    (fun u q hd hr => by
      rw [draining_finishReset] at hd
      rw [hasOp_finishReset]
      unfold State.finishReset at hr
      split at hr
      · exact absurd rfl (resetting_of_resetDone u hr).1
      · rename_i hwaits
        simpa [hr, hd] using hwaits)
    (fun u q b hq hd hr => by
      rw [draining_finishReset] at hd
      rw [hasOp_finishReset]
      exact hq hd (resetting_of_finishReset u hr))
    (mem_allPorts p) s (by rw [← h]; exact draining_finishResets s)

/-! ### Offers -/

/-- An offer is made of the slot where a port is eligible (R47). -/
theorem offerSlot_cases (i : SlotId) :
    (((s.slot i).phase = .free → (s.slot i).offeredTo = none → s.nextOffered = none) ∧ s.offerSlot i = s)
      ∨ ∃ q, s.nextOffered = some q ∧ ∀ j, (s.offerSlot i).slot j = if i = j then { s.slot j with offeredTo := some q } else s.slot j := by
  by_cases h : (s.slot i).phase = .free → (s.slot i).offeredTo = none → s.nextOffered = none
  · exact .inl ⟨h, offerSlot_of_none h⟩
  · push Not at h
    obtain ⟨hfree, hnone, hnext⟩ := h
    obtain ⟨q, hq⟩ := Option.ne_none_iff_exists'.1 hnext
    refine .inr ⟨q, hq, fun j => ?_⟩
    rw [State.offerSlot, if_pos (by simp [hfree, hnone])]
    simp only [hq]
    exact slot_modSlot s i j fun w => { w with offeredTo := some q }

/-- Every FREE slot is offered that can be (R47). -/
theorem slotsOffered_offerSlots : s.offerSlots.SlotsOffered := fun i =>
  foldl_establishes (Q := fun i u => (u.slot i).phase = .free → (u.slot i).offeredTo = none → u.nextOffered = none)
    (fun u i => by
      rcases offerSlot_cases u i with ⟨hnone, hsame⟩ | ⟨q, _, hslot⟩
      · rwa [hsame]
      · rw [hslot, if_pos rfl]
        exact fun _ h => nomatch h)
    (fun u i j hi => by
      rcases offerSlot_cases u j with ⟨_, hsame⟩ | ⟨q, hq, hslot⟩
      · rwa [hsame]
      · rw [hslot]
        split
        · exact fun _ h => nomatch h
        · exact fun hfree hnone => absurd (hi hfree hnone) (by simp [hq]))
    (mem_allSlots i) s

/-! ### The fence -/

/-- The idle test of a fence does nothing where the fence is not met, else tells its owner and makes it HELD (R167). -/
theorem fenceTest_cases :
    (s.fenceMet = false ∧ s.fenceTest = s)
      ∨ ∃ owner tag set, s.fence = .pending owner tag set
          ∧ s.fenceTest = ({ s with fence := .held owner tag set } : State).addRecord owner (.fenceDone tag .idle) := by
  cases hmet : s.fenceMet with
  | false => exact .inl ⟨rfl, fenceTest_of_unmet hmet⟩
  | true =>
      cases hf : s.fence with
      | none | held => simp [State.fenceMet, hf] at hmet
      | pending owner tag set =>
          simp only [State.fenceMet, hf] at hmet
          exact .inr ⟨owner, tag, set, rfl, by simp only [State.fenceTest, hf, hmet, if_true]⟩

/-- After the idle test no PENDING fence is met (R167). -/
theorem fenceMet_fenceTest : s.fenceTest.fenceMet = false := by
  rcases fenceTest_cases s with ⟨hunmet, hsame⟩ | ⟨_, _, _, _, htold⟩
  · rw [hsame, hunmet]
  · rw [htold]
    rfl

theorem fenceTest_keeps_requests (q : Port) :
    (s.fenceTest.port q).state = (s.port q).state ∧ (s.fenceTest.port q).requestQueue = (s.port q).requestQueue := by
  rcases fenceTest_cases s with ⟨_, hsame⟩ | ⟨_, _, _, _, htold⟩
  · rw [hsame]
    exact ⟨rfl, rfl⟩
  · rw [htold, port_addRecord]
    split <;> exact ⟨rfl, rfl⟩

/-- Beside the ports and the fence the idle test changes nothing. -/
theorem fenceTest_butPorts : { s.fenceTest.butPorts with fence := s.fence } = s.butPorts := by
  rcases fenceTest_cases s with ⟨_, hsame⟩ | ⟨_, _, _, hf, htold⟩
  · rw [hsame]
    rfl
  · rw [htold]
    rfl

theorem hasOp_fenceTest (r : Requester) : s.fenceTest.hasOp r = s.hasOp r := (congrArg (fun u : State => u.hasOp r) (fenceTest_butPorts s) :)

theorem draining_fenceTest : s.fenceTest.draining = s.draining := (congrArg State.draining (fenceTest_butPorts s) :)

/-! ### The arbiters -/

/-- Whatever waits at an arbiter, it chooses an operation that waits (R79). -/
theorem choose_mem {a : Arbiter} (h : a.waiting ≠ []) : ∃ op, a.choose = some op ∧ op ∈ a.waiting := by
  have hwaits : ∀ r op, (a.waiting.find? fun op => op.requester == r) = some op → op ∈ a.waiting := fun r op => List.mem_of_find?_eq_some
  simp only [Arbiter.choose]
  cases hslot : allSlots.findSome? fun k => a.waiting.find? fun op => op.requester == .slot k with
  | some op =>
      obtain ⟨k, _, hk⟩ := List.exists_of_findSome?_eq_some hslot
      exact ⟨op, rfl, hwaits _ _ hk⟩
  | none =>
      cases hport : (ringAfter a.pointer).findSome? fun q => a.waiting.find? fun op => op.requester == .engine q with
      | some op =>
          obtain ⟨q, _, hq⟩ := List.exists_of_findSome?_eq_some hport
          exact ⟨op, rfl, hwaits _ _ hq⟩
      | none =>
          obtain ⟨op, l, hl⟩ := List.exists_cons_of_ne_nil h
          exfalso
          rw [List.findSome?_eq_none_iff] at hslot hport
          cases hr : op.requester with
          | slot k => simpa [hl, hr] using hslot k (mem_allSlots k)
          | engine q => simpa [hl, hr] using hport q (mem_ringAfter _ q)

/-- An arbiter that can take takes an operation that waits (R79, R80). -/
theorem arbiterTake_of_ready {t : Target} (h : s.arbiterReady t = true) :
    ∃ op ∈ (s.arbiter t).waiting, s.arbiterTake t = s.setArbiter t ((s.arbiter t).took op ((s.arbiter t).pointerAfter op)) := by
  have hwaits : (s.arbiter t).waiting ≠ [] := by
    simp only [State.arbiterReady, Bool.and_eq_true, Bool.not_eq_true', List.isEmpty_eq_false_iff] at h
    exact h.1.1
  obtain ⟨op, hchoose, hmem⟩ := choose_mem hwaits
  refine ⟨op, hmem, ?_⟩
  rw [State.arbiterTake, if_pos h, hchoose]
  rfl

/-- A requester has an operation where one of its stands at an arbiter, waiting or taken (R78). -/
theorem hasOp_eq_true {r : Requester} :
    s.hasOp r = true ↔ ∃ t : Target, ∃ op ∈ (s.arbiter t).waiting ++ (s.arbiter t).taken, op.requester = r := by
  simp only [State.hasOp, List.any_cons, List.any_nil, Bool.or_false, Bool.or_eq_true, List.any_eq_true, beq_iff_eq, List.mem_append]
  constructor
  · rintro (⟨op, h, hr⟩ | ⟨op, h, hr⟩ | ⟨op, h, hr⟩ | ⟨op, h, hr⟩)
    · exact ⟨.near, op, .inl h, hr⟩
    · exact ⟨.near, op, .inr h, hr⟩
    · exact ⟨.external, op, .inl h, hr⟩
    · exact ⟨.external, op, .inr h, hr⟩
  · rintro ⟨_ | _, op, h | h, hr⟩
    · exact .inl ⟨op, h, hr⟩
    · exact .inr (.inl ⟨op, h, hr⟩)
    · exact .inr (.inr (.inl ⟨op, h, hr⟩))
    · exact .inr (.inr (.inr ⟨op, h, hr⟩))

/-- What an arbiter takes it keeps: whoever had an operation, waiting or taken, has it still (R78). -/
theorem hasOp_arbiterTake (t : Target) {r : Requester} (h : s.hasOp r = true) : (s.arbiterTake t).hasOp r = true := by
  cases hready : s.arbiterReady t with
  | false => rwa [arbiterTake_of_not_ready hready]
  | true =>
      obtain ⟨op, _, htake⟩ := arbiterTake_of_ready s hready
      obtain ⟨u, x, hx, hr⟩ := (hasOp_eq_true s).1 h
      refine (hasOp_eq_true _).2 ⟨u, x, ?_, hr⟩
      rw [htake, arbiter_setArbiter]
      split
      · subst_vars
        simp only [Arbiter.took, List.mem_append, List.mem_singleton] at hx ⊢
        by_cases hxo : x = op
        · exact .inr (.inr hxo)
        · exact hx.imp (List.mem_erase_of_ne hxo).2 .inl
      · exact hx

theorem hasOp_arbitersTake {r : Requester} (h : s.hasOp r = true) : s.arbitersTake.hasOp r = true :=
  hasOp_arbiterTake _ _ <| hasOp_arbiterTake _ _ <| hasOp_arbiterTake _ _ <| hasOp_arbiterTake _ _ <| hasOp_arbiterTake s .near h

theorem depth_arbiterTake (t u : Target) : (s.arbiterTake t).depth u = s.depth u :=
  (congrArg (fun v : State => v.depth u) (arbiterTake_keeps s t) :)

theorem arbiterReady_arbiterTake_of_ne {t u : Target} (h : t ≠ u) : (s.arbiterTake t).arbiterReady u = s.arbiterReady u := by
  have hsame : (s.arbiterTake t).arbiter u = s.arbiter u := by
    cases hready : s.arbiterReady t with
    | false => rw [arbiterTake_of_not_ready hready]
    | true =>
        obtain ⟨op, _, htake⟩ := arbiterTake_of_ready s hready
        rw [htake, arbiter_setArbiter, if_neg h]
  have hdrain : (s.arbiterTake t).draining = s.draining := (congrArg State.draining (arbiterTake_keeps s t) :)
  simp only [State.arbiterReady, hsame, hdrain, depth_arbiterTake]

/-- An arbiter that can take is one operation nearer to what its target accepts after it (R80). -/
theorem room_arbiterTake {t : Target} {n : Nat} (h : s.arbiterReady t = true → s.depth t ≤ (s.arbiter t).taken.length + (n + 1)) :
    (s.arbiterTake t).arbiterReady t = true → (s.arbiterTake t).depth t ≤ ((s.arbiterTake t).arbiter t).taken.length + n := by
  intro hafter
  cases hready : s.arbiterReady t with
  | false =>
      rw [arbiterTake_of_not_ready hready, hready] at hafter
      cases hafter
  | true =>
      obtain ⟨op, _, htake⟩ := arbiterTake_of_ready s hready
      have hroom := h hready
      rw [depth_arbiterTake, htake, arbiter_setArbiter, if_pos rfl, Arbiter.took, List.length_append, List.length_singleton]
      omega

/-- With as many operations taken as its target accepts an arbiter takes none (R80). -/
theorem not_ready_of_room {t : Target} (h : s.arbiterReady t = true → s.depth t ≤ (s.arbiter t).taken.length + 0) :
    s.arbiterReady t = false := by
  by_contra hready
  rw [Bool.not_eq_false] at hready
  have hroom := h hready
  simp only [State.arbiterReady, Bool.and_eq_true, decide_eq_true_eq] at hready
  omega

/-- The arbiters take all they can: the near store accepts one operation, the pool four (R80). -/
theorem not_ready_arbitersTake : s.arbitersTake.arbiterReady .near = false ∧ s.arbitersTake.arbiterReady .external = false := by
  have hne : Target.external ≠ Target.near := by decide
  constructor
  · simp only [State.arbitersTake, arbiterReady_arbiterTake_of_ne _ hne]
    refine not_ready_of_room _ (room_arbiterTake s fun _ => ?_)
    show Config.nearDepth ≤ _
    exact Nat.le_add_left _ _
  · refine not_ready_of_room _ <| room_arbiterTake _ <| room_arbiterTake _ <| room_arbiterTake _ <| room_arbiterTake _ fun _ => ?_
    refine le_trans ?_ (Nat.le_add_left Config.poolDepth _)
    simp only [State.depth]
    split
    · exact le_refl _
    · exact Nat.zero_le _

/-! ### A device reset in progress, and its end -/

theorem taken_restArbiters :
    s.restArbiters.nearArbiter.taken = s.nearArbiter.taken ∧ s.restArbiters.poolArbiter.taken = s.poolArbiter.taken := by
  unfold State.restArbiters
  split
  · rename_i hnone
    simp only [Bool.and_eq_true, List.isEmpty_iff] at hnone
    exact ⟨hnone.1.symm, hnone.2.symm⟩
  · exact ⟨rfl, rfl⟩

theorem restArbiters_at_rest (hn : s.restArbiters.nearArbiter.taken = []) (hp : s.restArbiters.poolArbiter.taken = []) :
    s.restArbiters.nearArbiter = Arbiter.powerOn ∧ s.restArbiters.poolArbiter = Arbiter.powerOn := by
  obtain ⟨htn, htp⟩ := taken_restArbiters s
  rw [State.restArbiters, if_pos (by simp [← htn, ← htp, hn, hp])]
  exact ⟨rfl, rfl⟩

theorem arbiters_restWalker : s.restWalker.nearArbiter = s.nearArbiter ∧ s.restWalker.poolArbiter = s.poolArbiter := by
  unfold State.restWalker
  split <;> exact ⟨rfl, rfl⟩

/-- With no operation taken at either target the arbiters of a device reset are at rest (R82). -/
theorem arbiters_resting (hn : s.restArbiters.restWalker.nearArbiter.taken = []) (hp : s.restArbiters.restWalker.poolArbiter.taken = []) :
    s.restArbiters.restWalker.nearArbiter = Arbiter.powerOn ∧ s.restArbiters.restWalker.poolArbiter = Arbiter.powerOn := by
  obtain ⟨hnear, hpool⟩ := arbiters_restWalker s.restArbiters
  rw [hnear] at hn ⊢
  rw [hpool] at hp ⊢
  exact restArbiters_at_rest s hn hp

theorem ports_restArbiters : s.restArbiters.ports = s.ports := (congrArg State.ports (restArbiters_keeps s) :)

theorem ports_restWalker : s.restWalker.ports = s.ports := by
  unfold State.restWalker
  split <;> rfl

/-- Whether a device reset is drained, and whether a walker operation is outstanding, are told by the operations taken and the ports. -/
theorem waiting_congr {s t : State} (hn : t.nearArbiter.taken = s.nearArbiter.taken) (hp : t.poolArbiter.taken = s.poolArbiter.taken) :
    (t.ports = s.ports → t.drained = s.drained) ∧ t.walkerOutstanding = s.walkerOutstanding := by
  refine ⟨fun hports => ?_, ?_⟩
  · simp only [State.drained, State.port, hn, hp, hports]
  · simp only [State.walkerOutstanding, hn, hp]

/-- What a device reset that has not drained waits for, it waits for after its arbiters and its walker have come to rest (R63, R82). -/
theorem resetWaits_of_not_drained (h : s.drained = false) : s.restArbiters.restWalker.ResetWaits := by
  obtain ⟨htn, htp⟩ := taken_restArbiters s
  obtain ⟨hn, hp⟩ := arbiters_restWalker s.restArbiters
  obtain ⟨hdrained, _⟩ := waiting_congr (s := s) (t := s.restArbiters.restWalker) (by rw [hn, htn]) (by rw [hp, htp])
  obtain ⟨_, hwalker⟩ := waiting_congr (s := s.restArbiters) (t := s.restArbiters.restWalker) (by rw [hn]) (by rw [hp])
  refine ⟨?_, arbiters_resting s, fun hout => ?_⟩
  · rw [hdrained ((ports_restWalker _).trans (ports_restArbiters s)), h]
  · rw [hwalker] at hout
    rw [State.restWalker, hout]
    exact ⟨rfl, rfl, rfl⟩

theorem draining_restArbiters : s.restArbiters.draining = s.draining := (congrArg State.draining (restArbiters_keeps s) :)

theorem draining_restWalker : s.restWalker.draining = s.draining := (congrArg State.draining (restWalker_keeps s) :)

/-- A device reset that is still in progress after its end has been tried waits for something (R63, R82, R187). -/
theorem resetWaits_tryEndDeviceReset (h : s.tryEndDeviceReset.draining = true) : s.tryEndDeviceReset.ResetWaits := by
  unfold State.tryEndDeviceReset at h ⊢
  split at h
  · rename_i hdrain
    split at h
    · cases h
    · rename_i hwaits
      rw [if_pos hdrain, if_neg hwaits]
      exact resetWaits_of_not_drained s (by simpa using hwaits)
  · contradiction

/-! ### At rest after housekeeping and the dispatch of work -/

/-- During a device reset no engine takes a request and no arbiter an operation: it is at rest where it waits (R88, R183, R186). -/
theorem atRest_of_draining {s : State} (hd : s.draining = true) (h : s.ResetWaits) : s.AtRest := by
  have hdev : s.deviceReset = .draining := by simpa [State.draining] using hd
  refine ⟨fun p => ?_, ?_, ?_, fun hno => ?_, fun _ => h⟩
  · simp [State.canTake, hdev, DeviceReset.allows]
  · simp [State.arbiterReady, hd]
  · simp [State.arbiterReady, hd]
  · rw [hd] at hno
    cases hno

theorem port_reportAll {s : State} (h : s.draining = false) (q : Port) : s.reportAll.port q = (s.port q).report := by
  rw [State.reportAll, if_neg (by simp [h]), port_mapPorts]

theorem port_arbitersTake (q : Port) : s.arbitersTake.port q = s.port q := (congrArg (fun u : State => u.port q) (arbitersTake_keeps s) :)

/-- The transmitters' choice and the arbiters' taking leave what housekeeping has done as it is, and nothing for themselves (R79, R148). -/
theorem atRest_dispatchWork {s : State} (hd : s.draining = false) (hresets : s.ResetsReported) (hslots : s.SlotsOffered)
    (hfence : s.fenceMet = false) (htake : ∀ p, s.dispatchWork.canTake p = false) : s.dispatchWork.AtRest := by
  obtain ⟨hnear, hext⟩ := not_ready_arbitersTake s.reportAll
  have hport : ∀ q, s.dispatchWork.port q = (s.port q).report := fun q => by
    rw [State.dispatchWork, port_arbitersTake, port_reportAll hd]
  have hkeeps : s.dispatchWork.butWork = s.butWork := dispatchWork_keeps s
  have hdrain : s.dispatchWork.draining = false := by
    rw [← hd]
    exact (congrArg State.draining hkeeps :)
  refine ⟨htake, hnear, hext, fun _ => ⟨fun q => ?_, fun q hq => ?_, ?_, ?_⟩, fun h => ?_⟩
  · rw [hport]
    exact canTransmit_report _
  · rw [hport, state_report] at hq
    have hop := hresets q hq
    rw [← hasOp_of_butPorts (reportAll_keeps s)] at hop
    exact hasOp_arbitersTake _ hop
  · exact Eq.mpr (congrArg State.SlotsOffered hkeeps :) hslots
  · refine fenceMet_eq_false_of hfence (congrArg State.fence hkeeps :) fun q hq => ?_
    rw [hport] at hq
    exact fenceIdle_of_report hq
  · rw [hdrain] at h
    cases h

/-- With no device reset in progress housekeeping offers the slots it can and tests the fence after the port resets that are done (R47, R167, R172). -/
theorem housekeep_of_not_draining {s t : State} (ht : s.tryEndDeviceReset.finishResets = t) (hd : t.draining = false) :
    s.housekeep = t.offerSlots.fenceTest := by
  simp only [State.housekeep, ht, hd, Bool.false_eq_true, if_false]

/-- During a device reset housekeeping is the try to end it (R186, R187). -/
theorem housekeep_of_draining {s t : State} (ht : s.tryEndDeviceReset = t) (hd : t.draining = true) : s.housekeep = t := by
  have hsame : t.finishResets = t := foldl_same _ _ _ fun p => by simp [State.finishReset, hd]
  simp only [State.housekeep, ht, hsame, hd, if_true]

/-- Once housekeeping and the dispatch of work have been done and no engine may take a request, nothing is left undone. -/
theorem atRest_housekeep_dispatchWork (htake : ∀ p, s.housekeep.dispatchWork.canTake p = false) : s.housekeep.dispatchWork.AtRest := by
  cases hd : s.tryEndDeviceReset.draining with
  | true =>
      have hrest : s.tryEndDeviceReset.AtRest := atRest_of_draining hd (resetWaits_tryEndDeviceReset s hd)
      rw [housekeep_of_draining rfl hd, AtRest.dispatchWork hrest]
      exact hrest
  | false =>
      have hreported := resetsReported_finishResets _ hd
      rw [← draining_finishResets] at hd
      rw [housekeep_of_not_draining rfl hd] at htake ⊢
      generalize s.tryEndDeviceReset.finishResets = t at hd hreported htake ⊢
      have hslots := slotsOffered_offerSlots t
      have hoffers : t.offerSlots.butWalker = t.butWalker := offerSlots_keeps t
      generalize t.offerSlots = u at hslots hoffers htake ⊢
      have hport : ∀ p, u.port p = t.port p := fun p => (congrArg (fun v : State => v.port p) hoffers :)
      have hop : ∀ r, u.hasOp r = t.hasOp r := fun r => (congrArg (fun v : State => v.hasOp r) hoffers :)
      have hdrain : u.draining = t.draining := (congrArg State.draining hoffers :)
      refine atRest_dispatchWork ?_ (fun p hp => ?_) ?_ (fenceMet_fenceTest _) htake
      · rw [draining_fenceTest, hdrain, hd]
      · rw [(fenceTest_keeps_requests _ p).1, hport] at hp
        rw [hasOp_fenceTest, hop]
        exact hreported p hp
      · exact Eq.mpr (congrArg State.SlotsOffered (fenceTest_butPorts u) :) hslots

end

/-! ### Power-on values -/

/-- Every block of the part but the near store, the pool and the ports at its power-on value, in operation. -/
abbrev State.PoweredOn (s : State) : Prop := s = State.powerOn s.near s.pool s.ports s.pending s.freeCount

/-- A port with nothing queued that is not being reset. -/
abbrev PortRec.Blank (r : PortRec) : Prop := r.requestQueue = [] ∧ r.completionQueue = [] ∧ r.dataSlot = none ∧ r.state ≠ .resetting

/-- At power-on values, with nothing queued at any port, nothing is left undone (R155, R187, R189). -/
theorem atRest_of_poweredOn {s : State} (h : s.PoweredOn) (hblank : ∀ p, (s.port p).Blank) : s.AtRest := by
  have hdrain : s.draining = false := (congrArg State.draining h :)
  refine ⟨fun p => ?_, (congrArg (fun u : State => u.arbiterReady .near) h :), (congrArg (fun u : State => u.arbiterReady .external) h :),
    fun _ => ⟨fun p => ?_, fun p hp => ?_, fun _ _ _ => ?_, (congrArg State.fenceMet h :)⟩, fun hd => ?_⟩
  · obtain ⟨hrequests, _⟩ := hblank p
    simp [State.canTake, PortRec.mayTake, hrequests]
  · obtain ⟨_, hrecords, hslot, _⟩ := hblank p
    simp [PortRec.canTransmit, PortRec.batchDue, hrecords, hslot]
  · obtain ⟨_, _, _, hstate⟩ := hblank p
    exact absurd hp hstate
  · have hnone : s.walker.waitList = [] := (congrArg (fun u : State => u.walker.waitList) h :)
    simp [State.nextOffered, State.waitEntry, hnone]
  · rw [hdrain] at hd
    cases hd

/-- The end of a device reset leaves nothing undone (R187). -/
theorem atRest_endDeviceReset (s : State) : s.endDeviceReset.AtRest :=
  atRest_of_poweredOn rfl fun p => by
    have hport : s.endDeviceReset.port p = (s.port p).afterDeviceReset p := port_mapPorts s _ p
    rw [hport]
    refine ⟨rfl, rfl, rfl, fun hstate => ?_⟩
    simp only [PortRec.afterDeviceReset] at hstate
    split at hstate <;> cases hstate

/-! ### The settling of an event during a device reset -/

/-- During a device reset settling is the try to end it, and nothing more (R186, R187). -/
theorem settle_of_draining {s : State} (hd : s.draining = true) (n : Nat) : State.settle n s = s.tryEndDeviceReset := by
  generalize ht : s.tryEndDeviceReset = t
  obtain ⟨hrest, htwice⟩ : t.AtRest ∧ t.tryEndDeviceReset = t := by
    cases htd : t.draining with
    | true =>
        have hwaits := resetWaits_tryEndDeviceReset s (ht.symm ▸ htd)
        rw [ht] at hwaits
        obtain ⟨hdrained, harbiters, hwalker⟩ := id hwaits
        exact ⟨atRest_of_draining htd hwaits, tryEndDeviceReset_of_waiting htd hdrained harbiters hwalker⟩
    | false =>
        have hended : t = s.endDeviceReset := by
          rw [State.tryEndDeviceReset, if_pos hd] at ht
          split at ht
          · exact ht.symm
          · rw [← ht, draining_restWalker, draining_restArbiters, hd] at htd
            cases htd
        exact ⟨hended ▸ atRest_endDeviceReset s, by rw [State.tryEndDeviceReset, htd]; rfl⟩
  have hhouse : s.housekeep = t.housekeep := by simp only [State.housekeep, ht, htwice]
  have hsame : State.settle n s = State.settle n t := by cases n <;> simp only [State.settle, hhouse]
  rw [hsame, AtRest.settle hrest]

end Sys2Proof.Machine
end

section
/-! PROOFS. Whatever goes on at an event leaves the part in operation, and no rule but the arrival of a request lengthens a request queue; so the takings of an event come to an end (R88, R161). -/

namespace Sys2Proof.Machine

/-! ### States that follow one another within an event -/

/-- A state that may follow another within an event: in operation if it was, no request queue longer than before. -/
structure GoesOn (s t : State) : Prop where
  power : s.power = .operating → t.power = .operating
  queues : ∀ q : Port, (t.port q).requestQueue.length ≤ (s.port q).requestQueue.length

section
variable {s t u : State}

theorem GoesOn.refl (s : State) : GoesOn s s := ⟨id, fun _ => le_refl _⟩

theorem GoesOn.trans (h : GoesOn s t) (h' : GoesOn t u) : GoesOn s u :=
  ⟨h'.power ∘ h.power, fun q => (h'.queues q).trans (h.queues q)⟩

/-- GoesOn.trans with the later part first. -/
theorem GoesOn.after (h' : GoesOn t u) (h : GoesOn s t) : GoesOn s u := h.trans h'

/-- A change of neither the power state nor the ports. -/
theorem GoesOn.of_same (hpower : t.power = s.power) (hports : t.ports = s.ports) : GoesOn s t :=
  ⟨fun h => hpower.trans h, fun q => by rw [State.port, State.port, hports]⟩

/-- A change that leaves the power state and the request queues. -/
theorem GoesOn.of_queues (hpower : t.power = s.power) (hqueues : ∀ q, (t.port q).requestQueue = (s.port q).requestQueue) : GoesOn s t :=
  ⟨fun h => hpower.trans h, fun q => by rw [hqueues]⟩

theorem GoesOn.of_butArbiters (h : t.butArbiters = s.butArbiters) : GoesOn s t := .of_same (congrArg State.power h :) (congrArg State.ports h :)

theorem GoesOn.of_butCache (h : t.butCache = s.butCache) : GoesOn s t := .of_same (congrArg State.power h :) (congrArg State.ports h :)

theorem GoesOn.of_butWalker (h : t.butWalker = s.butWalker) : GoesOn s t := .of_same (congrArg State.power h :) (congrArg State.ports h :)

theorem GoesOn.modPort (s : State) (p : Port) {f : PortRec → PortRec} (hf : ∀ r, (f r).requestQueue.length ≤ r.requestQueue.length) :
    GoesOn s (s.modPort p f) :=
  ⟨id, fun q => by
    rw [port_modPort]
    split
    · exact hf _
    · exact le_refl _⟩

/-- A change of one port's record that leaves its request queue. -/
theorem GoesOn.modPort_of_same (s : State) (p : Port) {f : PortRec → PortRec} (hf : ∀ r, (f r).requestQueue = r.requestQueue) :
    GoesOn s (s.modPort p f) := .modPort s p fun r => by rw [hf]

theorem GoesOn.modEngine (s : State) (p : Port) (f : Engine → Engine) : GoesOn s (s.modEngine p f) := .modPort_of_same s p fun _ => rfl

theorem GoesOn.addRecord (s : State) (p : Port) (x : Record) : GoesOn s (s.addRecord p x) := .modPort_of_same s p fun _ => rfl

theorem GoesOn.mapPorts (s : State) {f : Port → PortRec → PortRec} (hf : ∀ q r, (f q r).requestQueue.length ≤ r.requestQueue.length) :
    GoesOn s (s.mapPorts f) := ⟨id, fun q => by rw [port_mapPorts]; exact hf _ _⟩

/-- A change of the ports' records that leaves their request queues. -/
theorem GoesOn.mapPorts_of_same (s : State) {f : Port → PortRec → PortRec} (hf : ∀ q r, (f q r).requestQueue = r.requestQueue) :
    GoesOn s (s.mapPorts f) := .mapPorts s fun q r => by rw [hf]

/-- A fold of steps that go on goes on. -/
theorem GoesOn.foldl {α : Type} {f : State → α → State} (hf : ∀ s a, GoesOn s (f s a)) (l : List α) (s : State) : GoesOn s (l.foldl f s) := by
  induction l generalizing s with
  | nil => exact .refl s
  | cons a l ih => exact (hf s a).trans (ih _)

theorem GoesOn.queuedRequests_le (h : GoesOn s t) : t.queuedRequests ≤ s.queuedRequests := List.sum_le_sum fun p _ => h.queues p

end

/-! ### Replies -/

theorem requestQueue_replyDone (r : PortRec) (tag : Tag) (st : Status) (reason : Option Status) (done : Option (BitVec 16))
    (fault : Option (BitVec 40)) (value : Option (BitVec 32)) (mark : DoneMark) :
    (r.replyDone tag st reason done fault value mark).requestQueue = r.requestQueue := requestQueue_countReply _ _

theorem requestQueue_replyData (r : PortRec) (f : DataFrame) (flush : Bool) : (r.replyData f flush).requestQueue = r.requestQueue := by
  unfold PortRec.replyData
  split
  · exact requestQueue_countReply _ _
  · rfl

theorem requestQueue_replyAccess (r : PortRec) (c : Current) (st : Status) (reason : Option Status) (done : Option (BitVec 16))
    (fault : Option (BitVec 40)) (body : DataBody) : (r.replyAccess c st reason done fault body).requestQueue = r.requestQueue := by
  unfold PortRec.replyAccess
  split
  · exact requestQueue_replyDone _ _ _ _ _ _ _ _
  · exact requestQueue_replyData _ _ _

theorem requestQueue_faultPortion (r : PortRec) (st : Status) : (r.faultPortion st).requestQueue = r.requestQueue := by
  simp only [PortRec.faultPortion]
  split
  · rfl
  · split <;> exact requestQueue_replyAccess _ _ _ _ _ _ _

theorem requestQueue_resetAnswered (r : PortRec) (p : Port) : (r.resetAnswered p).requestQueue = r.requestQueue := by
  unfold PortRec.resetAnswered
  split
  · split
    · exact requestQueue_countReply _ _
    · rfl
  · rfl

variable (s : State)

theorem replyDone_goesOn (p : Port) (tag : Tag) (st : Status) (value : Option (BitVec 32) := none) (mark : DoneMark := .plain) :
    GoesOn s (s.modPort p fun r => r.replyDone tag st none none none value mark) :=
  .modPort_of_same s p fun _ => requestQueue_replyDone _ _ _ _ _ _ _ _

theorem replyStatus_goesOn (p : Port) (tag : Tag) (st : Status) : GoesOn s (s.replyStatus p tag st) := replyDone_goesOn s p tag st

theorem replyData_goesOn (p : Port) (f : DataFrame) : GoesOn s (s.modPort p fun r => r.replyData f) :=
  .modPort_of_same s p fun _ => requestQueue_replyData _ _ _

theorem replyRefusal_goesOn (p : Port) (kind : Byte) (tag : Tag) (st : Status) : GoesOn s (s.replyRefusal p kind tag st) :=
  .modPort_of_same s p fun r => by
    split
    · exact requestQueue_replyData _ _ _
    · exact requestQueue_replyDone _ _ _ _ _ _ _ _

theorem replyAccess_goesOn (p : Port) (c : Current) (st : Status) (body : DataBody) :
    GoesOn s (s.modPort p fun r => r.replyAccess c st none none none body) :=
  .modPort_of_same s p fun _ => requestQueue_replyAccess _ _ _ _ _ _ _

theorem faultPortion_goesOn (p : Port) (st : Status) : GoesOn s (s.faultPortion p st) :=
  .modPort_of_same s p fun _ => requestQueue_faultPortion _ _

theorem occurrence_goesOn (c : AlertCause) (p : Port) (a : Option (BitVec 32)) : GoesOn s (s.occurrence c p a) := by
  unfold State.occurrence
  split
  · exact .refl s
  · split
    · exact .of_same rfl rfl
    · exact (GoesOn.of_same rfl rfl : GoesOn s (s.setLatch c _)).trans <| .mapPorts_of_same _ fun _ r => by
        split <;> rfl

/-! ### Access requests -/

theorem placePortion_goesOn (p : Port) (t : Target) (a : Nat) : GoesOn s (s.placePortion p t a) :=
  (GoesOn.of_butArbiters (placeOp_keeps s t _)).trans (.modEngine _ p _)

theorem issue_goesOn (p : Port) : GoesOn s (s.issue p) := by
  unfold State.issue
  split
  · exact faultPortion_goesOn s p _
  · split
    · exact faultPortion_goesOn s p _
    · exact placePortion_goesOn s p _ _
    · split
      · exact .modEngine s p _
      · exact placePortion_goesOn s p _ _

theorem translated_goesOn (p : Port) (t : Translation) : GoesOn s (s.translated p t) := by
  have hinHand := GoesOn.modEngine s p fun e => { e with translation := some t }
  simp only [State.translated]
  split
  · exact hinHand
  · split
    · exact hinHand.trans (faultPortion_goesOn _ p _)
    · split
      · exact hinHand.trans (replyAccess_goesOn _ p _ _ _)
      · exact hinHand.trans (issue_goesOn _ p)

theorem lookupPortion_goesOn (p : Port) : GoesOn s (s.lookupPortion p) := by
  have hask : ∀ k write, GoesOn s ((s.lookup k write).2.modEngine p fun e => { e with state := .translate }) := fun k write =>
    (GoesOn.of_butCache (lookup_keeps s k write)).trans (.modEngine _ p _)
  simp only [State.lookupPortion]
  split
  · exact (hask _ _).trans (translated_goesOn _ p _)
  · exact hask _ _
  · exact hask _ _

theorem startPortion_goesOn (p : Port) : GoesOn s (s.startPortion p) := by
  simp only [State.startPortion]
  split
  · exact issue_goesOn s p
  · split
    · exact faultPortion_goesOn s p _
    · split
      · exact faultPortion_goesOn s p _
      · exact lookupPortion_goesOn s p

/-- An access request begins its first portion or is refused. -/
theorem beginAccess_or_refused_goesOn (c : Prop) [Decidable c] (p : Port) (kind : Byte) (tag : Tag) (ops : Operands)
    (portions : List Portion) :
    GoesOn s (if c then s.beginAccess p tag ops portions else s.replyRefusal p kind tag .malformed) := by
  split
  · exact (GoesOn.modEngine s p _).trans (startPortion_goesOn _ p)
  · exact replyRefusal_goesOn s p _ _ _

/-! ### Lock requests -/

theorem passLock_goesOn (n : LockId) (p : Port) : GoesOn s (s.passLock n p) := by
  simp only [State.passLock]
  split
  · exact (GoesOn.of_same rfl rfl : GoesOn s (s.setLock n _)).trans (.addRecord _ _ _)
  · exact .of_same rfl rfl

/-- A change of a lock, then a reply. -/
theorem setLock_replyStatus_goesOn (n : LockId) (l : Lock) (p : Port) (tag : Tag) (st : Status) :
    GoesOn s ((s.setLock n l).replyStatus p tag st) := (GoesOn.of_same rfl rfl : GoesOn s (s.setLock n l)).trans (replyStatus_goesOn _ p tag st)

theorem takeLock_goesOn (p : Port) (tag : Tag) (n : Byte) : GoesOn s (s.takeLock p tag n) := by
  simp only [State.takeLock]
  split
  · exact replyStatus_goesOn s p tag _
  · split
    · exact replyStatus_goesOn s p tag _
    · split
      · exact replyStatus_goesOn s p tag _
      · split <;> exact setLock_replyStatus_goesOn s _ _ p tag _

theorem takeUnlock_goesOn (p : Port) (tag : Tag) (n : Byte) : GoesOn s (s.takeUnlock p tag n) := by
  unfold State.takeUnlock
  split
  · exact replyStatus_goesOn s p tag _
  · split
    · exact (passLock_goesOn s _ p).trans (replyStatus_goesOn _ p tag _)
    · exact replyStatus_goesOn s p tag _

theorem takeLockWithdraw_goesOn (p : Port) (tag : Tag) (n : Byte) : GoesOn s (s.takeLockWithdraw p tag n) := by
  simp only [State.takeLockWithdraw]
  split
  · exact replyStatus_goesOn s p tag _
  · split
    · exact setLock_replyStatus_goesOn s _ _ p tag _
    · exact replyStatus_goesOn s p tag _

theorem takeLockQuery_goesOn (p : Port) (tag : Tag) (n : Byte) : GoesOn s (s.takeLockQuery p tag n) := by
  simp only [State.takeLockQuery]
  split <;> exact replyData_goesOn s p _

theorem takeSetLock_goesOn (p : Port) (tag : Tag) (n : Byte) (lease : BitVec 16) : GoesOn s (s.takeSetLock p tag n lease) := by
  unfold State.takeSetLock
  split
  · exact replyStatus_goesOn s p tag _
  · split
    · exact replyStatus_goesOn s p tag _
    · exact setLock_replyStatus_goesOn s _ _ p tag _

/-! ### Resets and fences -/

theorem lockLeaves_goesOn (p : Port) (n : LockId) : GoesOn s (State.lockLeaves p s n) := by
  simp only [State.lockLeaves]
  split
  · exact passLock_goesOn s n p
  · split
    · exact .of_same rfl rfl
    · exact .refl s

theorem endFence_goesOn : GoesOn s s.endFence :=
  (GoesOn.of_same rfl rfl : GoesOn s { s with fence := .none }).trans (.mapPorts_of_same _ fun _ _ => rfl)

theorem fenceLeaves_goesOn (p : Port) : GoesOn s (s.fenceLeaves p) := by
  unfold State.fenceLeaves
  split
  · exact endFence_goesOn s
  · exact .refl s

/-- A port reset discards the requests of its port (R171). -/
theorem clearPort_goesOn (p : Port) : GoesOn s (s.clearPort p) := by
  have hbegin : GoesOn s ((s.modPort p PortRec.beginReset).walkerLeaves p) :=
    (GoesOn.modPort s p (f := PortRec.beginReset) fun _ => Nat.zero_le _).trans (.of_same rfl rfl)
  simp only [State.clearPort]
  generalize (s.modPort p PortRec.beginReset).walkerLeaves p = t at hbegin ⊢
  refine (fenceLeaves_goesOn _ p).after (.after ?_ hbegin)
  exact (GoesOn.foldl (fun u n => lockLeaves_goesOn u p n) allLocks _).after (.of_same rfl rfl)

/-- The beginning of a device reset discards every request (R162, R185). -/
theorem beginDeviceReset_goesOn : GoesOn s s.beginDeviceReset :=
  ⟨id, fun q => by
    have hport : s.beginDeviceReset.port q = (s.port q).drained := port_mapPorts s (fun _ r => r.drained) q
    rw [hport]
    exact Nat.zero_le _⟩

theorem beginIfAnnounced_goesOn (p : Port) : GoesOn s (s.beginIfAnnounced p) := by
  unfold State.beginIfAnnounced
  split
  · exact beginDeviceReset_goesOn s
  · exact .refl s

/-- The end of a device reset is in operation, with every request discarded (R187). -/
theorem endDeviceReset_goesOn : GoesOn s s.endDeviceReset :=
  ⟨fun _ => rfl, fun q => by
    have hport : s.endDeviceReset.port q = (s.port q).afterDeviceReset q := port_mapPorts s _ q
    rw [hport]
    exact Nat.zero_le _⟩

theorem restWalker_goesOn : GoesOn s s.restWalker := by
  unfold State.restWalker
  split
  · exact .refl s
  · exact .of_same rfl rfl

theorem tryEndDeviceReset_goesOn : GoesOn s s.tryEndDeviceReset := by
  unfold State.tryEndDeviceReset
  split
  · split
    · exact endDeviceReset_goesOn s
    · exact (GoesOn.of_butArbiters (restArbiters_keeps s)).trans (restWalker_goesOn _)
  · exact .refl s

theorem finishReset_goesOn (p : Port) : GoesOn s (s.finishReset p) := by
  unfold State.finishReset
  split
  · refine .mapPorts_of_same s fun q r => ?_
    rw [requestQueue_resetAnswered]
    split <;> rfl
  · exact .refl s

/-! ### Administrative requests -/

theorem takeSetAnchor_goesOn (p : Port) (tag : Tag) (space : Byte) (base : BitVec 32) (length : BitVec 16) (mask : BitVec 8) :
    GoesOn s (s.takeSetAnchor p tag space base length mask) := by
  unfold State.takeSetAnchor
  split
  · exact replyStatus_goesOn s p tag _
  · split
    · exact (replyStatus_goesOn _ p tag _).after (.of_same rfl rfl)
    · exact replyStatus_goesOn s p tag _

theorem takePurge_goesOn (p : Port) (tag : Tag) (scope space : Byte) (segment page : BitVec 16) :
    GoesOn s (s.takePurge p tag scope space segment page) := by
  unfold State.takePurge
  split
  · exact replyStatus_goesOn s p tag _
  · exact (replyDone_goesOn _ p tag _ _).after (.of_same rfl rfl)

theorem takeSetWindow_goesOn (p : Port) (tag : Tag) (window kind : Byte) (base limit target : BitVec 16) :
    GoesOn s (s.takeSetWindow p tag window kind base limit target) := by
  unfold State.takeSetWindow
  split
  · split
    · exact replyStatus_goesOn s p tag _
    · exact (replyStatus_goesOn _ p tag _).after (.of_same rfl rfl)
  · exact replyStatus_goesOn s p tag _

theorem takeSetPool_goesOn (p : Port) (tag : Tag) (size : BitVec 16) : GoesOn s (s.takeSetPool p tag size) := by
  unfold State.takeSetPool
  split
  · exact replyStatus_goesOn s p tag _
  · split
    · exact replyStatus_goesOn s p tag _
    · exact (GoesOn.modEngine _ p _).after (.of_same rfl rfl)

theorem takeSetPort_goesOn (p : Port) (tag : Tag) (port cls c h : Byte) (t : BitVec 16) :
    GoesOn s (s.takeSetPort p tag port cls c h t) := by
  unfold State.takeSetPort
  split
  · split
    · exact replyStatus_goesOn s p tag _
    · split
      · exact replyStatus_goesOn s p tag _
      · exact (replyStatus_goesOn _ p tag _).after (.modPort_of_same s _ fun _ => rfl)
  · exact replyStatus_goesOn s p tag _

theorem takeFence_goesOn (p : Port) (tag : Tag) (set : BitVec 8) : GoesOn s (s.takeFence p tag set) := by
  unfold State.takeFence
  split
  · exact replyStatus_goesOn s p tag _
  · split
    · exact replyStatus_goesOn s p tag _
    · split
      · exact replyStatus_goesOn s p tag _
      · exact (replyStatus_goesOn _ p tag _).after (.of_queues rfl fun q => by rw [port_mapPorts]; rfl)

theorem takeUnfence_goesOn (p : Port) (tag : Tag) : GoesOn s (s.takeUnfence p tag) := by
  unfold State.takeUnfence
  split
  · exact replyStatus_goesOn s p tag _
  · exact (GoesOn.addRecord s _ _).trans ((endFence_goesOn _).trans (replyStatus_goesOn _ p tag _))
  · exact (endFence_goesOn s).trans (replyStatus_goesOn _ p tag _)

theorem takePortReset_goesOn (p : Port) (tag : Tag) (port : Byte) : GoesOn s (s.takePortReset p tag port) := by
  simp only [State.takePortReset]
  split
  · exact replyStatus_goesOn s p tag _
  · split
    · exact replyStatus_goesOn s p tag _
    · split
      · exact replyStatus_goesOn s p tag _
      · exact (GoesOn.modEngine s p _).trans ((clearPort_goesOn _ _).trans (beginIfAnnounced_goesOn _ _))
      · exact .modEngine s p _

theorem takeSetTimebase_goesOn (p : Port) (tag : Tag) (divide : BitVec 16) : GoesOn s (s.takeSetTimebase p tag divide) := by
  unfold State.takeSetTimebase
  split
  · exact replyStatus_goesOn s p tag _
  · exact (replyStatus_goesOn _ p tag _).after (.of_same rfl rfl)

theorem clearCounters_goesOn : GoesOn s s.clearCounters :=
  .of_queues rfl fun q => by rw [State.clearCounters, port_mapPorts]; rfl

theorem takeCounters_goesOn (p : Port) (tag : Tag) (clear : Byte) : GoesOn s (s.takeCounters p tag clear) := by
  unfold State.takeCounters
  split
  · exact replyRefusal_goesOn s p _ _ _
  · split
    · exact (clearCounters_goesOn s).trans (replyData_goesOn _ p _)
    · exact replyData_goesOn s p _

theorem takeAlertClear_goesOn (p : Port) (tag : Tag) (cause : Byte) : GoesOn s (s.takeAlertClear p tag cause) := by
  unfold State.takeAlertClear
  split
  · exact replyStatus_goesOn s p tag _
  · exact (replyDone_goesOn _ p tag _ _).after (.of_same rfl rfl)

theorem takeDeviceReset_goesOn (p : Port) (tag : Tag) : GoesOn s (s.takeDeviceReset p tag) := by
  unfold State.takeDeviceReset
  split
  · exact (replyDone_goesOn _ p tag _ _ _).after (.of_same rfl rfl)
  · exact replyDone_goesOn s p tag _ _ _
  · exact .refl s

/-! ### The taking of a request, and the settling of an event -/

theorem carryOut_goesOn (p : Port) (tag : Tag) (ops : Operands) : GoesOn s (s.carryOut p tag ops) := by
  cases ops with
  | read | write | probe | physRead | physWrite => exact beginAccess_or_refused_goesOn s _ p _ tag _ _
  | lock => exact takeLock_goesOn s p tag _
  | unlock => exact takeUnlock_goesOn s p tag _
  | lockWithdraw => exact takeLockWithdraw_goesOn s p tag _
  | lockQuery => exact takeLockQuery_goesOn s p tag _
  | setLock => exact takeSetLock_goesOn s p tag _ _
  | setAnchor => exact takeSetAnchor_goesOn s p tag _ _ _ _
  | purge => exact takePurge_goesOn s p tag _ _ _ _
  | setWindow => exact takeSetWindow_goesOn s p tag _ _ _ _ _
  | setPool => exact takeSetPool_goesOn s p tag _
  | setPort => exact takeSetPort_goesOn s p tag _ _ _ _ _
  | fence => exact takeFence_goesOn s p tag _
  | unfence => exact takeUnfence_goesOn s p tag
  | portReset => exact takePortReset_goesOn s p tag _
  | setTimebase => exact takeSetTimebase_goesOn s p tag _
  | counters => exact takeCounters_goesOn s p tag _
  | alertClear => exact takeAlertClear_goesOn s p tag _
  | deviceReset => exact takeDeviceReset_goesOn s p tag
  | malformed => exact replyRefusal_goesOn s p _ tag _

theorem examine_goesOn (p : Port) (r : Request) : GoesOn s (s.examine p r) := by
  unfold State.examine
  split
  · exact replyRefusal_goesOn s p _ _ _
  · split
    · exact replyRefusal_goesOn s p _ _ _
    · exact carryOut_goesOn s p _ _

/-- The taking of a request leaves one request fewer (R88). -/
theorem takeRequest_goesOn (p : Port) :
    GoesOn s (s.takeRequest p) ∧ ((s.port p).requestQueue ≠ [] → (s.takeRequest p).queuedRequests < s.queuedRequests) := by
  unfold State.takeRequest
  split
  · rename_i hnone
    exact ⟨.refl s, fun h => absurd hnone h⟩
  · rename_i r rest hqueue
    generalize ht : (s.modPort p fun x =>
      { x with requestQueue := rest, engine := { Engine.idle with current := some (currentOf r) } }) = t
    have hport : ∀ q, (t.port q).requestQueue = if p = q then rest else (s.port q).requestQueue := fun q => by
      rw [← ht, port_modPort]
      split <;> rfl
    have htaken : GoesOn s t := by
      refine ⟨fun h => by rw [← ht]; exact h, fun q => ?_⟩
      rw [hport]
      split
      · subst_vars
        rw [hqueue]
        exact Nat.le_succ _
      · exact le_refl _
    have hexamined := examine_goesOn t p r
    refine ⟨htaken.trans hexamined, fun _ => lt_of_le_of_lt hexamined.queuedRequests_le ?_⟩
    refine List.sum_lt_sum _ _ (fun q _ => htaken.queues q) ⟨p, mem_allPorts p, ?_⟩
    rw [hport, if_pos rfl, hqueue]
    exact Nat.lt_succ_self _

theorem fenceTest_goesOn : GoesOn s s.fenceTest :=
  ⟨fun h => by rw [← h]; exact (congrArg State.power (fenceTest_butPorts s) :), fun q => by rw [(fenceTest_keeps_requests s q).2]⟩

theorem housekeep_goesOn : GoesOn s s.housekeep := by
  have hresets : GoesOn s s.tryEndDeviceReset.finishResets :=
    (tryEndDeviceReset_goesOn s).trans (.foldl (fun u p => finishReset_goesOn u p) allPorts _)
  simp only [State.housekeep]
  split
  · exact hresets
  · exact hresets.trans ((GoesOn.of_butWalker (offerSlots_keeps _)).trans (fenceTest_goesOn _))

theorem reportAll_goesOn : GoesOn s s.reportAll := by
  unfold State.reportAll
  split
  · exact .refl s
  · exact .mapPorts_of_same s fun _ => requestQueue_report

theorem arbitersTake_goesOn : GoesOn s s.arbitersTake := .of_butArbiters (arbitersTake_keeps s)

theorem beforeTaking_goesOn : GoesOn s s.beforeTaking := by
  unfold State.beforeTaking
  split
  · exact (reportAll_goesOn s).trans (arbitersTake_goesOn _)
  · exact (reportAll_goesOn s).trans (.of_butArbiters (arbiterRace_keeps _))

theorem settle_operating (n : Nat) (h : s.power = .operating) : (State.settle n s).power = .operating :=
  settle_keeps (P := fun u => u.power = .operating) (fun u => (housekeep_goesOn u).power) (fun u => (reportAll_goesOn u).power)
    (fun u => (arbitersTake_goesOn u).power) (fun u p => (takeRequest_goesOn u p).1.power) (fun _ _ => id) n s h

/-! ### Settling comes to rest -/

theorem canTake_of_no_requests {s : State} (h : s.queuedRequests = 0) (p : Port) : s.canTake p = false := by
  have hnone : (s.port p).requestQueue.length = 0 := by
    rw [State.queuedRequests, List.sum_eq_zero_iff] at h
    exact h _ (List.mem_map_of_mem (mem_allPorts p))
  simp [State.canTake, PortRec.mayTake, List.length_eq_zero_iff.1 hnone]

/-- The port whose engine takes next is one whose engine may (R88; log 5). -/
theorem drawPort_mem (q : Port) (rest : List Port) : (s.drawPort q rest).1 ∈ q :: rest := by
  unfold State.drawPort
  split
  · exact List.mem_cons_self
  · have hlt : s.drawPick.1 % (rest.length + 1) < (q :: rest).length := Nat.mod_lt _ (Nat.succ_pos _)
    rw [List.getD_eq_getElem _ _ hlt]
    exact List.getElem_mem hlt

theorem takers_of_butArbiters {s t : State} (h : t.butArbiters = s.butArbiters) : t.takers = s.takers := (congrArg State.takers h :)

/-- Where no engine may take a request after all that comes before a taking, that was the dispatch of work. -/
theorem beforeTaking_eq_dispatchWork {s : State} (h : s.beforeTaking.takers = []) : s.beforeTaking = s.dispatchWork := by
  refine beforeTaking_of_no_takers ?_
  unfold State.beforeTaking at h
  split at h
  · exact List.isEmpty_iff.1 ‹_›
  · rw [← h, takers_of_butArbiters (arbiterRace_keeps _)]

/-- Settling with as many takings as requests wait leaves nothing undone (log 1). -/
theorem atRest_settle {n : Nat} {s : State} (h : s.queuedRequests ≤ n) : (State.settle n s).AtRest := by
  induction n generalizing s with
  | zero =>
      rw [State.settle]
      have hgo : GoesOn s s.housekeep.dispatchWork :=
        (housekeep_goesOn s).trans ((reportAll_goesOn _).trans (arbitersTake_goesOn _))
      have hnone : s.housekeep.dispatchWork.queuedRequests = 0 := Nat.le_zero.1 (Nat.le_trans hgo.queuedRequests_le h)
      exact atRest_housekeep_dispatchWork s fun p => canTake_of_no_requests hnone p
  | succ n ih =>
      rw [State.settle, State.thenTake]
      have hgo : GoesOn s s.housekeep.beforeTaking := (housekeep_goesOn s).trans (beforeTaking_goesOn _)
      split
      · rename_i hnone
        have hdispatch := beforeTaking_eq_dispatchWork hnone
        rw [hdispatch] at hnone ⊢
        exact atRest_housekeep_dispatchWork s (takers_eq_nil.1 hnone)
      · rename_i q rest htakers
        generalize s.housekeep.beforeTaking = t at hgo htakers ⊢
        obtain ⟨_, hfewer⟩ := takeRequest_goesOn (t.drawPort q rest).2 (t.drawPort q rest).1
        have hdraw : GoesOn t (t.drawPort q rest).2 := .of_butArbiters (drawPort_keeps t q rest)
        have hcan : t.canTake (t.drawPort q rest).1 = true := mem_takers.1 (htakers ▸ drawPort_mem t q rest)
        have hqueue : ((t.drawPort q rest).2.port (t.drawPort q rest).1).requestQueue ≠ [] := by
          have hsame : (t.drawPort q rest).2.ports = t.ports := (congrArg State.ports (drawPort_keeps t q rest) :)
          simp only [State.canTake, PortRec.mayTake, Bool.and_eq_true, Bool.not_eq_true', List.isEmpty_eq_false_iff] at hcan
          obtain ⟨⟨⟨⟨⟨_, hsome⟩, _⟩, _⟩, _⟩, _⟩ := hcan
          rw [State.port, hsame]
          exact hsome
        have hle := hdraw.queuedRequests_le.trans (hgo.queuedRequests_le.trans h)
        exact ih (Nat.lt_succ_iff.1 ((hfewer hqueue).trans_le hle))

end Sys2Proof.Machine
end

section
/-! PROOFS. Every step settles (log 1): an event in operation stays in operation and ends at rest, and start-up keeps power-on values until its end (R189). -/

namespace Sys2Proof.Machine

/-! ### The effect of an event leaves the part in operation -/

section
variable {s t : State}

theorem power_of_butPorts (h : t.butPorts = s.butPorts) : t.power = s.power := (congrArg State.power h :)

theorem power_of_butLatches (h : t.butLatches = s.butLatches) : t.power = s.power := (congrArg State.power h :)

theorem power_of_butLeases (h : t.butLeases = s.butLeases) : t.power = s.power := (congrArg State.power h :)

theorem power_of_butArbiters (h : t.butArbiters = s.butArbiters) : t.power = s.power := (congrArg State.power h :)

theorem power_of_butWalks (h : t.butWalks = s.butWalks) : t.power = s.power := (congrArg State.power h :)

/-- The completion of an operation is what it does at one of the targets, and its leaving that target's arbiter (R80). -/
theorem completeOp_eq_some {r : Requester} {res : OpResult} {op : MemOp} (h : s.completeOp r = some (res, op, t)) :
    ∃ x : Target, res = (s.perform x op).1 ∧ t = (s.perform x op).2.leaveArbiter x op := by
  unfold State.completeOp at h
  split at h
  · cases h
    exact ⟨.near, rfl, rfl⟩
  · split at h
    · cases h
      exact ⟨.external, rfl, rfl⟩
    · cases h

theorem power_perform (s : State) (x : Target) (op : MemOp) : (s.perform x op).2.power = s.power := (congrArg State.power (perform_keeps s x op) :)

theorem power_of_completeOp {r : Requester} {res : OpResult} {op : MemOp} (h : s.completeOp r = some (res, op, t)) : t.power = s.power := by
  obtain ⟨x, _, rfl⟩ := completeOp_eq_some h
  rw [power_of_butArbiters (leaveArbiter_keeps _ x op), power_perform]

end

variable (s : State)

theorem power_discardFrame (p : Port) : (s.discardFrame p).power = s.power := power_of_butLatches (occurrence_keeps _ .linkDiscard p none)

theorem power_acceptFrame (p : Port) (r : Request) : (s.acceptFrame p r).power = s.power := by
  unfold State.acceptFrame State.admitRequest
  split
  · rfl
  · split
    · rfl
    · split
      · rfl
      · exact power_of_butLatches (occurrence_keeps _ .overrun p none)

theorem power_arrive (p : Port) (r : Request) : (s.arrive p r).power = s.power := by
  unfold State.arrive
  split
  · split
    · exact power_discardFrame s p
    · exact power_acceptFrame s p r
  · rfl

theorem power_arriveBytes (p : Port) (bytes : List Byte) : (s.arriveBytes p bytes).power = s.power := by
  unfold State.arriveBytes
  split
  · split
    · exact power_acceptFrame s p _
    · exact power_discardFrame s p
  · rfl

theorem linkDownReport_goesOn (p : Port) : GoesOn s (s.linkDownReport p) := by
  have hlost : GoesOn s (s.modPort p fun r => { r with link := .down, transmitter := none }) := .modPort_of_same s p fun _ => rfl
  simp only [State.linkDownReport]
  split
  · exact .refl s
  · generalize (s.modPort p fun r => { r with link := .down, transmitter := none }) = t at hlost ⊢
    split
    · exact hlost
    · split
      · exact hlost.trans ((clearPort_goesOn t p).trans ((occurrence_goesOn _ _ p _).trans (beginIfAnnounced_goesOn _ p)))
      · exact hlost.trans (occurrence_goesOn t _ p _)
      · exact hlost

theorem transmissionDone_goesOn (p : Port) : GoesOn s (s.transmissionDone p) := by
  have hsent : ∀ bytes, GoesOn s (s.modPort p fun r => { r with transmitter := none, delivered := bytes }) := fun _ =>
    .modPort_of_same s p fun _ => rfl
  simp only [State.transmissionDone]
  split
  · exact .refl s
  · split
    · exact (hsent _).trans (beginDeviceReset_goesOn _)
    · exact hsent _

theorem power_dataErrorOccurrence (p : Port) (res : OpResult) : (s.dataErrorOccurrence p res).power = s.power := by
  cases res with
  | dataError a => exact power_of_butLatches (occurrence_keeps s _ p _)
  | bytes | entry | written => rfl

theorem power_engineOpComplete (p : Port) : (s.engineOpComplete p).power = s.power := by
  simp only [State.engineOpComplete]
  split
  · rename_i res op t hop
    have hdone := power_of_completeOp hop
    have herror := (power_dataErrorOccurrence t p res).trans hdone
    split
    · exact hdone
    · split
      · exact herror
      · rw [power_of_butWalks (butWalks_of_butAccess (operationDone_keeps _ p res)), power_of_butArbiters (arbiterRace_keeps _), herror]
  · rfl

theorem power_leavePoolWait (p : Port) : (s.leavePoolWait p).power = s.power := by
  simp only [State.leavePoolWait]
  split
  · split
    · split
      · rfl
      · exact power_of_butWalks (butWalks_of_butAccess (butAccess_of_butWork (issue_keeps s p)))
    · rfl
  · rfl

theorem power_leaveReadyWait (i : SlotId) : (s.leaveReadyWait i).power = s.power := by
  unfold State.leaveReadyWait
  split
  · exact (power_of_butArbiters (placeOp_keeps _ _ _)).trans rfl
  · rfl

theorem power_poolBecomesReady : s.poolBecomesReady.power = s.power := by
  simp only [State.poolBecomesReady]
  split
  · split
    · rfl
    · rw [foldl_keeps State.power _ power_leaveReadyWait, foldl_keeps State.power _ power_leavePoolWait]
  · rfl

theorem power_disturb (a : PhysAddress) : (s.disturb a).power = s.power := by
  unfold State.disturb
  split <;> rfl

theorem power_walkRequested (p : Port) : (s.walkRequested p).power = s.power := by
  unfold State.walkRequested
  split
  · exact power_of_butWalks (walkerTakes_keeps s p)
  · rfl

theorem power_offeredLooks (p : Port) : (s.offeredLooks p).power = s.power := by
  unfold State.offeredLooks
  split
  · split
    · exact power_of_butWalks (repeatLookup_keeps s p _)
    · rfl
  · rfl

theorem power_offerAnswered (p : Port) : (s.offerAnswered p).power = s.power := by
  unfold State.offerAnswered
  split
  · split
    · split
      · rfl
      · exact power_of_butWalks (answerOffer_keeps s p _ _ _)
    · rfl
  · rfl

theorem power_descriptorComplete (i : SlotId) : (s.descriptorComplete i).power = s.power := by
  unfold State.descriptorComplete
  split
  · rename_i hop
    have hdone := power_of_completeOp hop
    split
    · rfl
    · split
      · exact hdone
      · rw [power_of_butWalks (descriptorDone_keeps _ i _), power_of_butArbiters (arbiterRace_keeps _), hdone]
  · rfl

theorem power_mapComplete (i : SlotId) : (s.mapComplete i).power = s.power := by
  unfold State.mapComplete
  split
  · rename_i hop
    have hdone := power_of_completeOp hop
    split
    · split
      · rfl
      · split
        · exact hdone
        · rw [power_of_butWalks (endWalk_keeps _ i _), power_of_butArbiters (arbiterRace_keeps _), hdone]
    · rfl
  · rfl

theorem power_tick : s.tick.power = s.power := by
  simp only [State.tick, State.deliverTick]
  split
  · rfl
  · split
    · exact (power_of_butLeases (tickInOrder_keeps _ _)).trans rfl
    · exact (power_of_butPorts (timersTick_keeps _)).trans ((power_of_butLeases (leaseTick_keeps _)).trans rfl)

theorem power_tick_if (c : Prop) [Decidable c] : (if c then s.tick else s).power = s.power := by
  split
  · exact power_tick s
  · rfl

theorem power_clockPeriod : s.clockPeriod.power = s.power := by
  unfold State.clockPeriod
  split
  · exact power_tick s
  · rfl

/-! ### Start-up -/

/-- Every block at its power-on value, and the ports too but for the link states reported: the part during start-up (R189). -/
abbrev State.StartingUp (s : State) : Prop :=
  (∀ p : Port, (s.port p).startingUp p)
    ∧ s = { State.powerOn s.near Pool.powerOn s.ports s.pending s.freeCount with power := .startUp }

theorem settled_of_atRest {s : State} (hpower : s.power = .operating) (h : s.AtRest) : s.Settled :=
  ⟨fun _ => h, fun hup => absurd (hpower.symm.trans hup) nofun⟩

theorem settled_of_held {s : State} (h : s.power = .held) : s.Settled :=
  ⟨fun hop => absurd (h.symm.trans hop) nofun, fun hup => absurd (h.symm.trans hup) nofun⟩

theorem settled_of_startingUp {s : State} (hpower : s.power = .startUp) (h : s.StartingUp) : s.Settled :=
  ⟨fun hop => absurd (hpower.symm.trans hop) nofun, fun _ => h⟩

/-- A link report during start-up is held until its end (R189). -/
theorem settled_startUpLinkReport {s : State} (hup : s.power = .startUp) (h : s.Settled) (p : Port) (l : Link) :
    (s.startUpLinkReport p l).Settled := by
  obtain ⟨hports, hblocks⟩ := h.2 hup
  refine settled_of_startingUp hup ⟨fun q => ?_, congrArg (fun u : State => u.modPort p fun r => { r with startUpLink := l }) hblocks⟩
  rw [State.startUpLinkReport, port_modPort]
  split
  · exact congrArg (fun r : PortRec => { r with startUpLink := l }) (hports q)
  · exact hports q

/-- The release of power-on reset begins start-up with every block at its power-on value (R189). -/
theorem settled_startingUp : s.startingUp.Settled :=
  settled_of_startingUp rfl ⟨fun p => by fin_cases p <;> rfl, rfl⟩

theorem poweredOn_modPort {s : State} (h : s.PoweredOn) (p : Port) (f : PortRec → PortRec) : (s.modPort p f).PoweredOn :=
  congrArg (fun u : State => u.modPort p f) h

/-- A link-up report queues nothing and resets no port. -/
theorem blank_linkUpReport {s : State} (h : ∀ q, (s.port q).Blank) (p q : Port) : ((s.linkUpReport p).port q).Blank := by
  rw [State.linkUpReport, port_modPort]
  split
  · split
    · exact h q
    · obtain ⟨hrequests, hrecords, hslot, hstate⟩ := h q
      refine ⟨hrequests, hrecords, hslot, ?_⟩
      show (if _ then PortState.active else (s.port q).state) ≠ .resetting
      split
      · exact nofun
      · exact hstate
  · exact h q

/-- The end of start-up leaves the part in operation and at rest (R189). -/
theorem settled_started {s : State} (hup : s.power = .startUp) (h : s.Settled) : s.started.Settled := by
  obtain ⟨hports, hblocks⟩ := h.2 hup
  have hpool : s.pool = Pool.powerOn := (congrArg State.pool hblocks :)
  have hbegun : ({ s with power := .operating, near := [] } : State).PoweredOn := by
    refine (congrArg (fun u : State => { u with power := .operating, near := [] }) hblocks).trans ?_
    show State.powerOn [] Pool.powerOn s.ports s.pending s.freeCount = State.powerOn [] s.pool s.ports s.pending s.freeCount
    rw [hpool]
  have hblank : ∀ q, (s.port q).Blank := fun q => by
    rw [hports q]
    exact ⟨rfl, rfl, rfl, nofun⟩
  obtain ⟨hon, hnothing⟩ : s.started.PoweredOn ∧ ∀ q, (s.started.port q).Blank := by
    refine List.foldlRecOn (motive := fun u : State => u.PoweredOn ∧ ∀ q, (u.port q).Blank) allPorts State.startUpReport
      ⟨hbegun, hblank⟩ fun u ⟨hon, hnothing⟩ p _ => ?_
    unfold State.startUpReport
    split
    · exact ⟨poweredOn_modPort hon p _, blank_linkUpReport hnothing p⟩
    · exact ⟨hon, hnothing⟩
  exact settled_of_atRest (congrArg State.power hon :) (atRest_of_poweredOn hon hnothing)

/-! ### Every step -/

/-- An event whose effect leaves the part in operation ends at rest; outside operation it is none (R189; logs 1 and 2). -/
theorem event_settles {s t : State} {effect : State → State} (h : s.event effect = .next t) (hs : s.Settled)
    (he : s.power = .operating → (effect s).power = .operating) : t.Settled := by
  unfold State.event at h
  split at h
  · cases h
    exact settled_of_atRest (settle_operating _ _ (he ‹_›)) (atRest_settle (le_refl _))
  · cases h
    exact hs

theorem event_settles_of_power {s t : State} {effect : State → State} (h : s.event effect = .next t) (hs : s.Settled)
    (he : (effect s).power = s.power) : t.Settled := event_settles h hs he.trans

theorem requestEvent_settles {s t : State} {i : Instr} (h : s.requestEvent i = .next t) (hs : s.Settled) : t.Settled := by
  unfold State.requestEvent at h
  split at h
  · exact event_settles_of_power h hs (power_arrive s _ _)
  · cases h
    exact hs

/-- Every command settles: its event, or its part of power-on. -/
theorem exec_settles {s t : State} {c : Instr} (h : exec c s = .next t) (hs : s.Settled) : t.Settled := by
  cases c with
  | powerOnResetAssert =>
      cases h
      exact settled_of_held rfl
  | powerOnResetRelease =>
      cases h
      split
      · exact settled_startingUp s
      · exact hs
  | startUpEnd =>
      cases h
      split
      · exact settled_started ‹_› hs
      · exact hs
  | linkUp p =>
      simp only [exec, execLinkUp] at h
      split at h
      · cases h
        exact settled_startUpLinkReport ‹_› hs p .up
      · exact event_settles_of_power h hs rfl
  | linkDown p =>
      simp only [exec, execLinkDown] at h
      split at h
      · cases h
        exact settled_startUpLinkReport ‹_› hs p .down
      · exact event_settles h hs (linkDownReport_goesOn s p).power
  | requestAdmission p frame => exact event_settles_of_power (effect := fun u => u.arriveBytes p frame) h hs (power_arriveBytes s p frame)
  | batchAck | malformedRequest | read | write | probe | physRead | physWrite | lock | unlock | lockWithdraw | lockQuery | setLock
  | setAnchor | purge | setWindow | setPool | setPort | fence | unfence | portReset | setTimebase | counters | alertClear
  | deviceReset => exact requestEvent_settles ((exec_eq_requestEvent rfl s).symm.trans h) hs
  | walkRequest p => exact event_settles_of_power (effect := fun u => u.walkRequested p) h hs (power_walkRequested s p)
  | offeredLookup p => exact event_settles_of_power (effect := fun u => u.offeredLooks p) h hs (power_offeredLooks s p)
  | offerAnswer p => exact event_settles_of_power (effect := fun u => u.offerAnswered p) h hs (power_offerAnswered s p)
  | descriptorReadComplete i => exact event_settles_of_power (effect := fun u => u.descriptorComplete i) h hs (power_descriptorComplete s i)
  | mapUpdateComplete i => exact event_settles_of_power (effect := fun u => u.mapComplete i) h hs (power_mapComplete s i)
  | memoryOperationComplete p => exact event_settles_of_power (effect := fun u => u.engineOpComplete p) h hs (power_engineOpComplete s p)
  | poolReady => exact event_settles_of_power (effect := fun u => u.poolBecomesReady) h hs (power_poolBecomesReady s)
  | byteDisturbance a => exact event_settles_of_power (effect := fun u => u.disturb a) h hs (power_disturb s a)
  | timebaseTick => exact event_settles_of_power (effect := fun u => if u.tickDue then u.tick else u) h hs (power_tick_if s _)
  | leaseExpiry n =>
      exact event_settles_of_power (effect := fun u => if u.tickTaken && (u.lock n).expiresNext then u.tick else u) h hs (power_tick_if s _)
  | coalescingTimerExpiry p =>
      exact event_settles_of_power (effect := fun u => if u.tickTaken && (u.port p).timer.expiresNext then u.tick else u) h hs
        (power_tick_if s _)
  | transmissionComplete p => exact event_settles (effect := fun u => u.transmissionDone p) h hs (transmissionDone_goesOn s p).power
  | referenceClockPeriod => exact event_settles_of_power (effect := fun u => u.clockPeriod) h hs (power_clockPeriod s)

/-- The queue of commands is no part of what settles. -/
theorem settled_pending {s : State} (h : s.Settled) (rest : List Instr) : ({ s with pending := rest } : State).Settled :=
  ⟨h.1, fun hup => ⟨(h.2 hup).1, congrArg (fun u : State => { u with pending := rest }) (h.2 hup).2⟩⟩

/-- Settles O55: the front command settles, and idling leaves a settled state as it is. -/
theorem everyStepSettles : Obligations.EveryStepSettles := by
  intro s t hs h
  unfold step at h
  split at h
  · cases h
    exact hs
  · exact exec_settles h (settled_pending hs _)

end Sys2Proof.Machine
end

section
/-! PROOFS. A device reset (9.4): its beginning, what drains, what each completion does while it drains, and its end (R63, R82, R86, R185 to R188). -/

namespace Sys2Proof.Machine

/-! ### Numbers and bytes -/

theorem length_beBytes (n v : Nat) : (beBytes n v).length = n := by
  induction n with
  | zero => rfl
  | succ n ih => rw [beBytes, List.length_cons, ih]

theorem foldl_beNat (l : List Byte) (a : Nat) : l.foldl (fun acc b => acc * 256 + b.toNat) a = a * 256 ^ l.length + beNat l := by
  induction l generalizing a with
  | nil => simp [beNat]
  | cons b l ih =>
      have hcons : beNat (b :: l) = b.toNat * 256 ^ l.length + beNat l := by
        rw [beNat, List.foldl_cons, ih, Nat.zero_mul, Nat.zero_add]
      rw [List.foldl_cons, ih, hcons, List.length_cons]
      ring

theorem beNat_cons (b : Byte) (l : List Byte) : beNat (b :: l) = b.toNat * 256 ^ l.length + beNat l := by
  rw [beNat, List.foldl_cons, foldl_beNat, Nat.zero_mul, Nat.zero_add]

theorem beNat_lt (l : List Byte) : beNat l < 256 ^ l.length := by
  induction l with
  | nil => simp [beNat]
  | cons b l ih =>
      rw [beNat_cons, List.length_cons, pow_succ]
      have := b.isLt
      nlinarith

/-- Multiples of the whole range do not show in a run of bytes. -/
theorem beBytes_add_mul (n v k : Nat) : beBytes n (k * 256 ^ n + v) = beBytes n v := by
  induction n generalizing k with
  | zero => rfl
  | succ n ih =>
      have hpos : 0 < 256 ^ n := Nat.pow_pos (by norm_num)
      have hsplit : k * 256 ^ (n + 1) + v = k * 256 * 256 ^ n + v := by ring
      rw [beBytes, beBytes, hsplit, ih, Nat.mul_comm (k * 256), Nat.mul_add_div hpos]
      congr 1
      apply BitVec.eq_of_toNat_eq
      simp only [BitVec.toNat_ofNat]
      omega

/-- A run of bytes is the bytes of its number. -/
theorem beBytes_beNat (l : List Byte) : beBytes l.length (beNat l) = l := by
  induction l with
  | nil => rfl
  | cons b l ih =>
      have hpos : 0 < 256 ^ l.length := Nat.pow_pos (by norm_num)
      rw [List.length_cons, beBytes, beNat_cons, beBytes_add_mul, ih, Nat.mul_comm, Nat.mul_add_div hpos, Nat.div_eq_of_lt (beNat_lt l)]
      simp

/-! ### What an operation does to the memory -/

variable {s : State} {t : Target} {op : MemOp}

/-- A run written in a target's store reads as the run, every other byte as before (R73, R83). -/
theorem wrote_writeStore (h : s.MemoryCanonical) (t : Target) (addr : Nat) (data : List Byte) :
    s.Wrote (s.writeStore t addr data) t addr data := by
  obtain ⟨hnear, hpool, _⟩ := h
  cases t with
  | near =>
      refine ⟨fun x => Memory.byte_setBytes hnear addr x data, fun u hu => ?_⟩
      cases u with
      | near => exact absurd rfl hu
      | external => rfl
  | external =>
      refine ⟨fun x => Memory.byte_setBytes hpool addr x data, fun u hu => ?_⟩
      cases u with
      | near => rfl
      | external => exact absurd rfl hu

/-- Bytes that stand in a store already are as if written. -/
theorem wrote_of_bytes {addr : Nat} {data : List Byte} (h : (s.store t).bytes addr data.length = data) : s.Wrote s t addr data := by
  refine ⟨fun x => ?_, fun _ _ => rfl⟩
  split
  · rename_i hx
    have hread := Memory.getD_bytes (s.store t) addr data.length (x - addr) (by omega)
    rw [h, Nat.add_sub_cancel' hx.1] at hread
    exact hread.symm
  · rfl

theorem entryAt_eq {addr : Nat} {word : BitVec 32} (h : word.toNat = beNat ((s.store t).bytes addr 4)) : s.entryAt t addr = word := by
  rw [State.entryAt, ← h, BitVec.ofNat_toNat, BitVec.setWidth_eq]

/-- A map update of an entry that can be read writes the entry with its flags set, where that changes it (R53). -/
theorem perform_mapUpdate {m : Bool} {word : BitVec 32} (hkind : op.kind = .mapUpdate m)
    (hword : word.toNat = beNat ((s.store t).bytes op.addr 4)) (hread : s.readFailure t op.addr 4 = none) :
    (s.perform t op).2 = if updatedEntry word m = word then s else s.writeStore t op.addr (beBytes 4 (updatedEntry word m).toNat) := by
  simp only [State.perform, hkind, hread, entryAt_eq hword]

/-- An operation at its target does to the memory what the rules of its kind say (R53, R73, R83). -/
theorem performed_perform (h : s.MemoryCanonical) (t : Target) (op : MemOp) : s.Performed (s.perform t op).2 t op := by
  refine ⟨fun n hkind => ?_, fun data hkind => ?_, fun m word hkind hword => ⟨fun hread hresident => ?_, fun hnone => ?_⟩⟩
  · simp only [State.perform, hkind]
    split <;> exact ⟨rfl, rfl⟩
  · simp only [State.perform, hkind]
    exact wrote_writeStore h t _ _
  · have hentry : updatedEntry word m = word ||| 0x40000000#32 ||| (if m then 0x20000000#32 else 0#32) := if_pos hresident
    rw [perform_mapUpdate hkind hword hread, ← hentry]
    split
    · rename_i hsame
      refine wrote_of_bytes ?_
      have hbytes := beBytes_beNat ((s.store t).bytes op.addr 4)
      rw [Memory.length_bytes] at hbytes
      rw [length_beBytes, hsame, hword, hbytes]
    · exact wrote_writeStore h t _ _
  · cases hread : s.readFailure t op.addr 4 with
    | some a =>
        simp only [State.perform, hkind, hread]
        exact ⟨rfl, rfl⟩
    | none =>
        have habsent : updatedEntry word m = word := if_neg (by simpa [entryResident, hread] using hnone)
        rw [perform_mapUpdate hkind hword hread, if_pos habsent]
        exact ⟨rfl, rfl⟩

/-! ### The completion of an operation at its target -/

theorem overlaps_iff (a b : MemOp) : a.overlaps b = true ↔ b.Touches a := by
  have hspan : ∀ o : MemOp, o.span = o.kind.bytes := fun o => by
    unfold MemOp.span OpKind.bytes
    cases o.kind <;> rfl
  simp only [MemOp.overlaps, MemOp.Touches, hspan, Bool.and_eq_true, decide_eq_true_eq]
  exact and_comm

/-- The first operation of a requester completes when none before it holds it back (R81). -/
theorem completable_eq_some {r : Requester} {l earlier : List MemOp} (hfirst : l.find? (fun o => o.requester == r) = some op)
    (hfree : ∀ o ∈ earlier, ¬o.Touches op) (hbefore : ∀ o ∈ l.takeWhile fun o => o.requester != r, ¬o.Touches op) :
    completable r earlier l = some op := by
  induction l generalizing earlier with
  | nil => cases hfirst
  | cons o l ih =>
      by_cases hr : o.requester = r
      · rw [List.find?_cons_of_pos (by simpa using hr)] at hfirst
        cases hfirst
        have hnone : earlier.any op.overlaps = false := by
          rw [List.any_eq_false]
          exact fun o ho hover => hfree o ho ((overlaps_iff op o).1 hover)
        rw [completable, if_pos hr, hnone]
        rfl
      · rw [List.find?_cons_of_neg (by simpa using hr)] at hfirst
        rw [List.takeWhile_cons_of_pos (by simpa using hr)] at hbefore
        rw [completable, if_neg hr]
        exact ih hfirst (List.forall_mem_cons.2 ⟨hbefore o List.mem_cons_self, hfree⟩) fun x hx => hbefore x (List.mem_cons_of_mem _ hx)

theorem completable_eq_none {r : Requester} {l earlier : List MemOp} (h : ∀ o ∈ l, o.requester ≠ r) : completable r earlier l = none := by
  induction l generalizing earlier with
  | nil => rfl
  | cons o l ih =>
      obtain ⟨ho, hl⟩ := List.forall_mem_cons.1 h
      rw [completable, if_neg ho]
      exact ih hl

/-- An operation that can complete is the one its requester's completion finds (R81). -/
theorem completeOp_of_canComplete (h : s.CanComplete t op) :
    s.completeOp op.requester = some ((s.perform t op).1, op, (s.perform t op).2.leaveArbiter t op) := by
  obtain ⟨⟨hfirst, hnear⟩, hbefore⟩ := h
  have hdone : completable op.requester [] (s.arbiter t).taken = some op := completable_eq_some hfirst nofun hbefore
  cases t with
  | near =>
      have hdone : completable op.requester [] s.nearArbiter.taken = some op := hdone
      simp only [State.completeOp, hdone]
  | external =>
      have hdone : completable op.requester [] s.poolArbiter.taken = some op := hdone
      simp only [State.completeOp, completable_eq_none (hnear rfl), hdone]

/-- The state after an operation has completed at its target and left its arbiter. -/
def State.afterOp (s : State) (t : Target) (op : MemOp) : State := (s.perform t op).2.leaveArbiter t op

/-- The state with the memory and the arbiters blanked: what an operation that completes at its target leaves as it was. -/
def State.butTargets (s : State) : State := { s with near := [], pool := Pool.powerOn, nearArbiter := Arbiter.powerOn, poolArbiter := Arbiter.powerOn }

section
variable (s : State) (t : Target) (op : MemOp)

theorem afterOp_keeps : (s.afterOp t op).butTargets = s.butTargets := by
  have hperform : (s.perform t op).2.butTargets = s.butTargets := (congrArg State.butTargets (perform_keeps s t op) :)
  rw [← hperform]
  cases t <;> rfl

theorem arbiter_perform (x : Target) : (s.perform t op).2.arbiter x = s.arbiter x := (congrArg (fun u : State => u.arbiter x) (perform_keeps s t op) :)

/-- An operation that completes leaves the arbiter of its target, and no other leaves any (R80). -/
theorem arbiter_afterOp (x : Target) : (s.afterOp t op).arbiter x = (s.leaveArbiter t op).arbiter x := by
  simp only [State.afterOp, State.leaveArbiter, arbiter_setArbiter, arbiter_perform]

theorem memory_afterOp : (s.afterOp t op).near = (s.perform t op).2.near ∧ (s.afterOp t op).pool = (s.perform t op).2.pool := by
  cases t <;> exact ⟨rfl, rfl⟩

theorem ports_leaveArbiter : (s.leaveArbiter t op).ports = s.ports := setArbiter_ports s t _

theorem draining_afterOp : (s.afterOp t op).draining = s.draining := (congrArg State.draining (afterOp_keeps s t op) :)

theorem ports_afterOp : (s.afterOp t op).ports = s.ports := (congrArg State.ports (afterOp_keeps s t op) :)

end

/-- During a device reset the command that completes an operation is the event at which the operation completes at its target, its result discarded (R63, R82, R186). -/
theorem exec_completedBy {c : Instr} (hd : s.draining = true) (h : s.CanComplete t op) (hc : s.CompletedBy op c) :
    ∃ effect : State → State, exec c s = s.event effect ∧ effect s = s.afterOp t op := by
  have hop := completeOp_of_canComplete h
  have hdone : (s.afterOp t op).draining = true := by rw [draining_afterOp, hd]
  change s.completeOp op.requester = some (_, op, s.afterOp t op) at hop
  unfold State.CompletedBy at hc
  split at hc
  · rename_i _ _ p hr
    subst hc
    refine ⟨fun u => u.engineOpComplete p, rfl, ?_⟩
    rw [hr] at hop
    simp only [State.engineOpComplete, hop, hdone, if_true]
  · rename_i i m hr hkind
    obtain ⟨rfl, hphase⟩ := hc
    refine ⟨fun u => u.mapComplete i, rfl, ?_⟩
    rw [hr] at hop
    simp [State.mapComplete, hop, hkind, OpKind.mapSets, hphase, hdone]
  · rename_i i hr hkind
    obtain ⟨rfl, hphase⟩ := hc
    have hread : op.kind.mapSets = none := by
      cases hk : op.kind with
      | mapUpdate m => exact absurd hk (hkind m)
      | read | write => rfl
    refine ⟨fun u => u.descriptorComplete i, rfl, ?_⟩
    rw [hr] at hop
    simp [State.descriptorComplete, hop, hread, hphase, hdone]

/-! ### What a device reset waits for -/

theorem drained_eq_false : s.drained = false ↔ s.Outstanding := by
  have hports : (allPorts.all fun p => (s.port p).transmitter.isNone) = false ↔ ∃ q : Port, (s.port q).transmitter ≠ none := by
    simp [List.all_eq_false, mem_allPorts]
  simp only [State.drained, Bool.and_eq_false_iff, hports, List.isEmpty_eq_false_iff, or_assoc]

theorem walkerOutstanding_eq_true : s.walkerOutstanding = true ↔ s.WalkerOut := by
  have hwalker : ∀ o : MemOp, o.ofWalker = true ↔ ∃ i, o.requester = .slot i := fun o => by
    unfold MemOp.ofWalker
    cases o.requester <;> simp
  simp only [State.walkerOutstanding, State.WalkerOut, Bool.or_eq_true, List.any_eq_true, List.mem_append, hwalker, or_and_right, exists_or]

/-- What a device reset waits for is told by the operations taken and the transmitters (R187). -/
theorem outstanding_congr {u : State} (htaken : ∀ x, (u.arbiter x).taken = (s.arbiter x).taken)
    (hsending : ∀ q, (u.port q).transmitter = (s.port q).transmitter) : u.Outstanding ↔ s.Outstanding := by
  have hnear : u.nearArbiter.taken = s.nearArbiter.taken := htaken .near
  have hpool : u.poolArbiter.taken = s.poolArbiter.taken := htaken .external
  simp only [State.Outstanding, hnear, hpool, hsending]

/-- A device reset with something outstanding goes on, its arbiters and its walker at rest where they can be (R63, R82, R187). -/
theorem tryEndDeviceReset_of_outstanding (hd : s.draining = true) (h : s.Outstanding) :
    s.tryEndDeviceReset = s.restArbiters.restWalker := by
  rw [State.tryEndDeviceReset, if_pos hd, drained_eq_false.2 h]
  rfl

/-- A device reset with nothing outstanding ends (R187). -/
theorem tryEndDeviceReset_of_not_outstanding (hd : s.draining = true) (h : ¬s.Outstanding) : s.tryEndDeviceReset = s.endDeviceReset := by
  have hdrained : s.drained = true := by rwa [← Bool.not_eq_false, drained_eq_false]
  rw [State.tryEndDeviceReset, if_pos hd, if_pos hdrained]

theorem restarts_endDeviceReset (s : State) : s.Restarts s.endDeviceReset := ⟨rfl, fun q => port_mapPorts s _ q⟩

/-- An event in operation whose effect stands in a device reset: the try to end it follows, and nothing more (R186, R187). -/
theorem event_of_draining {effect : State → State} (hpower : s.power = .operating) (hd : (effect s).draining = true) :
    s.event effect = .next (effect s).tryEndDeviceReset := by
  rw [State.event, if_pos hpower, settle_of_draining hd]

/-! ### The arbiters and the walker of a device reset that goes on -/

/-- The state with the arbiters, the walker and the walker's counters blanked: what a device reset that goes on leaves as it was. -/
def State.butResting (s : State) : State :=
  { s with nearArbiter := Arbiter.powerOn, poolArbiter := Arbiter.powerOn, walker := Walker.powerOn, walksStarted := 0, staleWalks := 0 }

section
variable (s : State)

theorem resting_keeps : s.restArbiters.restWalker.butResting = s.butResting := by
  have harbiters : s.restArbiters.butResting = s.butResting := by
    unfold State.restArbiters
    split <;> rfl
  rw [← harbiters]
  unfold State.restWalker
  split <;> rfl

theorem taken_resting (x : Target) : (s.restArbiters.restWalker.arbiter x).taken = (s.arbiter x).taken := by
  obtain ⟨hnear, hpool⟩ := arbiters_restWalker s.restArbiters
  obtain ⟨hnear', hpool'⟩ := taken_restArbiters s
  cases x with
  | near => exact (congrArg Arbiter.taken hnear).trans hnear'
  | external => exact (congrArg Arbiter.taken hpool).trans hpool'

/-- The walker of a device reset that goes on: at its power-on values with no walker operation outstanding, else as it was (R63). -/
theorem walker_resting :
    (¬s.restArbiters.restWalker.WalkerOut →
        s.restArbiters.restWalker.walker = Walker.powerOn ∧ s.restArbiters.restWalker.walksStarted = 0 ∧ s.restArbiters.restWalker.staleWalks = 0)
      ∧ (s.restArbiters.restWalker.WalkerOut →
        s.restArbiters.restWalker.walker = s.walker ∧ s.restArbiters.restWalker.walksStarted = s.walksStarted
          ∧ s.restArbiters.restWalker.staleWalks = s.staleWalks) := by
  have hkeeps : s.restArbiters.butArbiters = s.butArbiters := restArbiters_keeps s
  generalize s.restArbiters = u at hkeeps ⊢
  obtain ⟨hnear, hpool⟩ := arbiters_restWalker u
  have hout : u.restWalker.WalkerOut ↔ u.walkerOutstanding = true := by
    rw [walkerOutstanding_eq_true, State.WalkerOut, State.WalkerOut, hnear, hpool]
  rw [hout]
  cases h : u.walkerOutstanding with
  | false =>
      rw [State.restWalker, h]
      exact ⟨fun _ => ⟨rfl, rfl, rfl⟩, nofun⟩
  | true =>
      rw [State.restWalker, h]
      exact ⟨fun hno => absurd rfl hno, fun _ =>
        ⟨(congrArg State.walker hkeeps :), (congrArg State.walksStarted hkeeps :), (congrArg State.staleWalks hkeeps :)⟩⟩

end

/-- A device reset that ends, or goes on, leaves the memory as it was (R187). -/
theorem memory_tryEndDeviceReset (hd : s.draining = true) : s.tryEndDeviceReset.near = s.near ∧ s.tryEndDeviceReset.pool = s.pool := by
  by_cases hsome : s.Outstanding
  · rw [tryEndDeviceReset_of_outstanding hd hsome]
    exact ⟨(congrArg State.near (resting_keeps s) :), (congrArg State.pool (resting_keeps s) :)⟩
  · rw [tryEndDeviceReset_of_not_outstanding hd hsome]
    exact ⟨rfl, rfl⟩

/-! ### The beginning of a device reset -/

theorem abandoned_eq_standing (e : Engine) : e.abandoned = e.standing := by
  unfold Engine.abandoned Engine.waitsOnPortReset Engine.standing
  obtain ⟨state, current, _⟩ := e
  cases state with
  | memory =>
      cases current with
      | none => rfl
      | some c =>
          obtain ⟨tag, ops⟩ := c
          cases ops <;> rfl
  | _ => rfl

theorem drained_eq_swept (r : PortRec) : r.drained = r.swept := by rw [PortRec.drained, PortRec.swept, abandoned_eq_standing]

theorem port_beginDeviceReset (s : State) (q : Port) : s.beginDeviceReset.port q = (s.port q).swept := by
  rw [← drained_eq_swept]
  exact port_mapPorts s (fun _ r => r.drained) q

/-- What is taken and what is being sent goes on at the beginning of a device reset (R82, R185). -/
theorem outstanding_beginDeviceReset (s : State) : s.beginDeviceReset.Outstanding ↔ s.Outstanding :=
  outstanding_congr (fun x => by cases x <;> rfl) fun q => by rw [port_beginDeviceReset]; rfl

theorem waiting_restArbiters (hnear : s.nearArbiter.waiting = []) (hpool : s.poolArbiter.waiting = []) :
    s.restArbiters.nearArbiter.waiting = [] ∧ s.restArbiters.poolArbiter.waiting = [] := by
  unfold State.restArbiters
  split
  · exact ⟨rfl, rfl⟩
  · exact ⟨hnear, hpool⟩

/-- What a device reset discards at its beginning is gone while it goes on (R82, R153, R185). -/
theorem drains_beginDeviceReset (s : State) : s.beginDeviceReset.restArbiters.restWalker.Drains := by
  have hkeeps := resting_keeps s.beginDeviceReset
  have hrest := arbiters_resting s.beginDeviceReset
  obtain ⟨hrested, hstands⟩ := walker_resting s.beginDeviceReset
  obtain ⟨hnear, hpool⟩ := waiting_restArbiters (s := s.beginDeviceReset) rfl rfl
  obtain ⟨hnear', hpool'⟩ := arbiters_restWalker s.beginDeviceReset.restArbiters
  rw [← hnear'] at hnear
  rw [← hpool'] at hpool
  generalize s.beginDeviceReset.restArbiters.restWalker = t at hkeeps hrest hrested hstands hnear hpool
  have hport : ∀ q, t.port q = (s.port q).swept := fun q => by
    rw [← port_beginDeviceReset]
    exact (congrArg (fun u : State => u.port q) hkeeps :)
  refine ⟨(congrArg State.deviceReset hkeeps :), fun q => ?_, hnear, hpool, fun i => ?_, fun hn hp => ?_⟩
  · rw [hport]
    exact ⟨rfl, rfl, rfl⟩
  · by_cases hout : t.WalkerOut
    · rw [State.slot, (hstands hout).1]
      exact congrArg WalkSlot.waitingReady (slot_mapSlots _ (fun w => { w with waitingReady := false }) i)
    · rw [State.slot, (hrested hout).1]
      exact congrArg WalkSlot.waitingReady (Vector.getElem_replicate _)
  · obtain ⟨hnearRest, hpoolRest⟩ := hrest hn hp
    exact ⟨congrArg Arbiter.pointer hnearRest, congrArg Arbiter.pointer hpoolRest⟩

/-- The completion of the transmission that announces a device reset begins it (R149, R185). -/
theorem transmissionDone_of_announcing {p : Port} {f : OutFrame} (hdevice : s.deviceReset = .announced p) (hsends : (s.port p).transmitter = some f)
    (hannounces : f.announcesReset = true) :
    s.transmissionDone p = (s.modPort p fun r => { r with transmitter := none, delivered := f.encode }).beginDeviceReset := by
  simp only [State.transmissionDone, hsends, hannounces, modPort_deviceReset, hdevice, beq_self_eq_true, Bool.and_self, if_true]

theorem transmissionDone_of_draining {p : Port} {f : OutFrame} (hd : s.draining = true) (hsends : (s.port p).transmitter = some f) :
    s.transmissionDone p = s.modPort p fun r => { r with transmitter := none, delivered := f.encode } := by
  have hdevice : s.deviceReset = .draining := by simpa [State.draining] using hd
  simp [State.transmissionDone, hsends, hdevice]

/-! ### The parts of DeviceResetBegins -/

/-- The state in which port p's transmission has been delivered and its transmitter is free. -/
def State.delivers (s : State) (p : Port) (f : OutFrame) : State := s.modPort p fun r => { r with transmitter := none, delivered := f.encode }

theorem outstanding_delivers (s : State) (p : Port) (f : OutFrame) :
    (s.delivers p f).Outstanding ↔ s.nearArbiter.taken ≠ [] ∨ s.poolArbiter.taken ≠ [] ∨ ∃ q : Port, q ≠ p ∧ (s.port q).transmitter ≠ none := by
  have hports : (∃ q : Port, ((s.delivers p f).port q).transmitter ≠ none) ↔ ∃ q : Port, q ≠ p ∧ (s.port q).transmitter ≠ none := by
    refine exists_congr fun q => ?_
    rw [State.delivers, port_modPort]
    split
    · subst_vars
      simp
    · rename_i hne
      simp [Ne.symm hne]
  rw [State.Outstanding, hports]
  rfl

/-- A port whose link and own fields are another's restarts as that one does. -/
theorem restarts_of_kept {u v : State} (h : u.Restarts v) (hpending : s.pending = u.pending) (hcount : s.freeCount = u.freeCount)
    (hport : ∀ q, (s.port q).link = (u.port q).link ∧ (s.port q).startUpLink = (u.port q).startUpLink
      ∧ (s.port q).delivered = (u.port q).delivered) : s.Restarts v := by
  obtain ⟨hon, hports⟩ := h
  refine ⟨by rw [hpending, hcount]; exact hon, fun q => ?_⟩
  obtain ⟨hlink, hup, hdelivered⟩ := hport q
  rw [hlink, hup, hdelivered]
  exact hports q

/-- With nothing else outstanding a device reset ends at the event of its beginning (R187). -/
theorem reset_begins_and_ends {p : Port} {f : OutFrame} (hpower : s.power = .operating) (hdevice : s.deviceReset = .announced p)
    (hsends : (s.port p).transmitter = some f) (hannounces : f.announcesReset = true) (hnone : ¬(s.delivers p f).Outstanding) :
    ∃ u, exec (.transmissionComplete p) s = .next u ∧ (s.modPort p fun r => { r with delivered := f.encode }).Restarts u ∧ s.SameMemory u := by
  have heffect : s.transmissionDone p = (s.delivers p f).beginDeviceReset := transmissionDone_of_announcing hdevice hsends hannounces
  have hbegun : ¬(s.delivers p f).beginDeviceReset.Outstanding := by rwa [outstanding_beginDeviceReset]
  refine ⟨(s.delivers p f).beginDeviceReset.endDeviceReset, ?_, ?_, rfl, rfl⟩
  · rw [← tryEndDeviceReset_of_not_outstanding rfl hbegun, ← heffect]
    refine event_of_draining (effect := fun u => u.transmissionDone p) hpower ?_
    rw [heffect]
    rfl
  · refine restarts_of_kept (restarts_endDeviceReset _) rfl rfl fun q => ?_
    rw [port_beginDeviceReset, State.delivers, port_modPort, port_modPort]
    split <;> exact ⟨rfl, rfl, rfl⟩

/-- With something outstanding the part drains (R63, R82, R86, R153, R162, R185). -/
theorem reset_begins_and_drains {p : Port} {f : OutFrame} (hpower : s.power = .operating) (hdevice : s.deviceReset = .announced p)
    (hsends : (s.port p).transmitter = some f) (hannounces : f.announcesReset = true) (hsome : (s.delivers p f).Outstanding) :
    ∃ t, exec (.transmissionComplete p) s = .next t ∧ t.Drains
      ∧ t.nearArbiter.taken = s.nearArbiter.taken ∧ t.poolArbiter.taken = s.poolArbiter.taken
      ∧ t.port p = { (s.port p).swept with transmitter := none, delivered := f.encode }
      ∧ (∀ q : Port, q ≠ p → t.port q = (s.port q).swept)
      ∧ s.SameTables t ∧ s.SameLocks t ∧ t.cache = s.cache ∧ t.latches = s.latches ∧ s.SameLookups t
      ∧ s.WalkerDrains t ∧ t.fence = s.fence := by
  have heffect : s.transmissionDone p = (s.delivers p f).beginDeviceReset := transmissionDone_of_announcing hdevice hsends hannounces
  have hbegun : (s.delivers p f).beginDeviceReset.Outstanding := by rwa [outstanding_beginDeviceReset]
  refine ⟨(s.delivers p f).beginDeviceReset.restArbiters.restWalker, ?_, drains_beginDeviceReset _, taken_resting _ .near, taken_resting _ .external, ?_⟩
  · rw [← tryEndDeviceReset_of_outstanding rfl hbegun, ← heffect]
    refine event_of_draining (effect := fun u => u.transmissionDone p) hpower ?_
    rw [heffect]
    rfl
  · have hkeeps := resting_keeps (s.delivers p f).beginDeviceReset
    obtain ⟨hrested, hstands⟩ := walker_resting (s.delivers p f).beginDeviceReset
    generalize (s.delivers p f).beginDeviceReset.restArbiters.restWalker = t at hkeeps hrested hstands
    have hport : ∀ q, t.port q = ((s.delivers p f).port q).swept := fun q => by
      rw [← port_beginDeviceReset]
      exact (congrArg (fun u : State => u.port q) hkeeps :)
    refine ⟨?_, fun q hq => ?_, ⟨(congrArg State.near hkeeps :), (congrArg State.pool hkeeps :), (congrArg State.windows hkeeps :),
      (congrArg State.anchors hkeeps :), (congrArg State.divide hkeeps :), (congrArg State.prescaler hkeeps :)⟩,
      ⟨(congrArg State.locks hkeeps :), (congrArg State.leaseExpiries hkeeps :)⟩, (congrArg State.cache hkeeps :),
      (congrArg State.latches hkeeps :), ⟨(congrArg State.cacheHits hkeeps :), (congrArg State.cacheMisses hkeeps :)⟩,
      ⟨hrested, fun hout => (hstands hout).2⟩, (congrArg State.fence hkeeps :)⟩
    · rw [hport, State.delivers, port_modPort_self]
      rfl
    · rw [hport, State.delivers, port_modPort_of_ne s (Ne.symm hq)]

/-- While the part drains a transmission that completes frees its transmitter, and ends the device reset when it is the last (R186, R187). -/
theorem draining_transmission {p : Port} {f : OutFrame} (hpower : s.power = .operating) (hd : s.draining = true) (hrest : s.AtRest)
    (hsends : (s.port p).transmitter = some f) :
    ((s.delivers p f).Outstanding → exec (.transmissionComplete p) s = .next (s.delivers p f))
      ∧ (¬(s.delivers p f).Outstanding →
        ∃ u, exec (.transmissionComplete p) s = .next u ∧ (s.modPort p fun r => { r with delivered := f.encode }).Restarts u ∧ s.SameMemory u) := by
  have heffect : s.transmissionDone p = s.delivers p f := transmissionDone_of_draining hd hsends
  have hdone : (s.delivers p f).draining = true := hd
  have hexec : exec (.transmissionComplete p) s = .next (s.delivers p f).tryEndDeviceReset := by
    rw [← heffect] at hdone ⊢
    exact event_of_draining (effect := fun u => u.transmissionDone p) hpower hdone
  refine ⟨fun hsome => ?_, fun hnone => ⟨_, hexec, ?_⟩⟩
  · obtain ⟨_, _, _, _, hwaits⟩ := hrest
    obtain ⟨_, harbiters, hwalker⟩ := hwaits hd
    rw [hexec, tryEndDeviceReset_of_waiting hdone (drained_eq_false.2 hsome) harbiters hwalker]
  · rw [tryEndDeviceReset_of_not_outstanding hdone hnone]
    refine ⟨restarts_of_kept (restarts_endDeviceReset _) rfl rfl fun q => ?_, rfl, rfl⟩
    rw [State.delivers, port_modPort, port_modPort]
    split <;> exact ⟨rfl, rfl, rfl⟩

/-- While the part drains the link-down report that abandons the last transmission ends the device reset (R158, R187). -/
theorem draining_linkDown {p : Port} (hpower : s.power = .operating) (hd : s.draining = true) (hup : (s.port p).link = .up)
    (hnone : ¬(s.modPort p fun r => { r with transmitter := none }).Outstanding) :
    ∃ u, exec (.linkDown p) s = .next u ∧ (s.modPort p fun r => { r with link := .down }).Restarts u ∧ s.SameMemory u := by
  generalize ht : (s.modPort p fun r => { r with link := .down, transmitter := none }) = t
  have hport : ∀ q, t.port q = if p = q then { s.port q with link := .down, transmitter := none } else s.port q := fun q => by
    rw [← ht, port_modPort]
  have hdone : t.draining = true := by rw [← ht]; exact hd
  have heffect : s.linkDownReport p = t := by
    simp [State.linkDownReport, hup, ht, hdone]
  have hlost : ¬t.Outstanding := by
    rwa [outstanding_congr (s := s.modPort p fun r => { r with transmitter := none }) (fun x => by rw [← ht]; rfl) fun q => ?_]
    rw [hport, port_modPort]
    split <;> rfl
  refine ⟨t.endDeviceReset, ?_, restarts_of_kept (restarts_endDeviceReset t) (by rw [← ht]; rfl) (by rw [← ht]; rfl) fun q => ?_, ?_⟩
  · rw [← tryEndDeviceReset_of_not_outstanding hdone hlost, ← heffect]
    have hstart : exec (.linkDown p) s = s.event fun u => u.linkDownReport p := by
      simp [exec, execLinkDown, hpower]
    rw [hstart]
    exact event_of_draining hpower (heffect ▸ hdone)
  · rw [hport, port_modPort]
    split <;> exact ⟨rfl, rfl, rfl⟩
  · rw [← ht]
    exact ⟨rfl, rfl⟩

/-- What an operation does to the memory depends on the memory after it alone. -/
theorem performed_of_memory {u v : State} (h : s.Performed u t op) (hnear : v.near = u.near) (hpool : v.pool = u.pool) : s.Performed v t op := by
  have hstore : ∀ x, v.store x = u.store x := fun x => by
    cases x with
    | near => exact hnear
    | external => exact congrArg Pool.cells hpool
  simpa only [State.Performed, State.SameMemory, State.Wrote, hstore, hnear, hpool] using h

/-- The state with the memory, the arbiters, the walker and the walker's counters blanked: what the completion of an operation leaves as it was while the part drains. -/
def State.butDraining (s : State) : State := s.butTargets.butResting

/-- While the part drains an operation that completes acts on the memory and changes nothing else but the arbiters and the walker; the last one ends the device reset (R63, R82, R186, R187). -/
theorem draining_operation {c : Instr} (hpower : s.power = .operating) (hd : s.draining = true) (hcanonical : s.MemoryCanonical)
    (hop : s.CanComplete t op) (hc : s.CompletedBy op c) :
    ∃ u, exec c s = .next u ∧ s.Performed u t op ∧ u.pool.state = s.pool.state ∧ u.pool.top = s.pool.top
      ∧ ((s.leaveArbiter t op).Outstanding →
          u = { s with
                near := u.near, pool := u.pool, nearArbiter := u.nearArbiter, poolArbiter := u.poolArbiter
                walker := u.walker, walksStarted := u.walksStarted, staleWalks := u.staleWalks }
            ∧ s.WalkerDrains u ∧ (u.WalkerOut → u.walker = s.walker)
            ∧ (u.arbiter t).taken = (s.arbiter t).taken.erase op ∧ (∀ x : Target, x ≠ t → (u.arbiter x).taken = (s.arbiter x).taken)
            ∧ (u.nearArbiter.taken = [] → u.poolArbiter.taken = [] →
                u.nearArbiter = { waiting := [], taken := [], pointer := 7 } ∧ u.poolArbiter = { waiting := [], taken := [], pointer := 7 }))
      ∧ (¬(s.leaveArbiter t op).Outstanding → s.Restarts u) := by
  obtain ⟨effect, hexec, heffect⟩ := exec_completedBy hd hop hc
  have harbiter := arbiter_afterOp s t op
  obtain ⟨hnear, hpool⟩ := memory_afterOp s t op
  have hkeeps := afterOp_keeps s t op
  have hdone : (s.afterOp t op).draining = true := by rw [draining_afterOp, hd]
  have hnext : exec c s = .next (s.afterOp t op).tryEndDeviceReset := by
    rw [hexec, event_of_draining hpower (heffect.symm ▸ hdone), heffect]
  have hblocks := perform_blocks s t op
  have hperformed := performed_perform hcanonical t op
  have hwaits : (s.afterOp t op).Outstanding ↔ (s.leaveArbiter t op).Outstanding :=
    outstanding_congr (fun x => by rw [harbiter]) fun q => by rw [State.port, State.port, ports_afterOp, ports_leaveArbiter]
  generalize s.afterOp t op = e at harbiter hnear hpool hkeeps hdone hnext hwaits
  obtain ⟨hnearKept, hpoolKept⟩ := memory_tryEndDeviceReset hdone
  refine ⟨_, hnext, performed_of_memory hperformed (hnearKept.trans hnear) (hpoolKept.trans hpool), ?_, ?_, fun hsome => ?_, fun hnone => ?_⟩
  · rw [hpoolKept, hpool]
    exact (congrArg (fun v : State => v.pool.state) hblocks :)
  · rw [hpoolKept, hpool]
    exact (congrArg (fun v : State => v.pool.top) hblocks :)
  · rw [tryEndDeviceReset_of_outstanding hdone (hwaits.2 hsome)]
    have htaken := taken_resting e
    have hrest := arbiters_resting e
    obtain ⟨hrested, hstands⟩ := walker_resting e
    have hframe := resting_keeps e
    generalize e.restArbiters.restWalker = u at htaken hrest hrested hstands hframe
    have hsame : u.butDraining = s.butDraining :=
      (congrArg State.butTargets hframe :).trans (congrArg State.butResting hkeeps :)
    refine ⟨?_, ⟨hrested, fun hout => ?_⟩, fun hout => ?_, ?_, fun x hx => ?_, hrest⟩
    · exact (congrArg (fun v : State => { v with
          near := u.near, pool := u.pool, nearArbiter := u.nearArbiter, poolArbiter := u.poolArbiter
          walker := u.walker, walksStarted := u.walksStarted, staleWalks := u.staleWalks }) hsame :)
    · obtain ⟨_, hstarted, hstale⟩ := hstands hout
      exact ⟨hstarted.trans (congrArg State.walksStarted hkeeps :), hstale.trans (congrArg State.staleWalks hkeeps :)⟩
    · exact (hstands hout).1.trans (congrArg State.walker hkeeps :)
    · rw [htaken, harbiter, State.leaveArbiter, arbiter_setArbiter, if_pos rfl]
    · rw [htaken, harbiter, State.leaveArbiter, arbiter_setArbiter, if_neg (Ne.symm hx)]
  · rw [tryEndDeviceReset_of_not_outstanding hdone (mt hwaits.1 hnone)]
    refine restarts_of_kept (restarts_endDeviceReset e) (congrArg State.pending hkeeps :).symm (congrArg State.freeCount hkeeps :).symm fun q => ?_
    have hport : s.port q = e.port q := (congrArg (fun v : State => v.port q) hkeeps :).symm
    rw [hport]
    exact ⟨rfl, rfl, rfl⟩

/-- Settles O33: the beginning of a device reset, that ends at once or drains, and each completion while it drains. -/
theorem deviceResetBegins : Obligations.DeviceResetBegins := by
  refine ⟨fun s p f ⟨hpower, _⟩ hdevice hsends hannounces => ⟨fun hnear hpool hothers => ?_, fun hsome => ?_⟩,
    fun s hpower hd hrest => ⟨fun p f hsends => ?_, fun t op c hcanonical hop hc => ?_, fun p hup hnone => ?_⟩⟩
  · refine reset_begins_and_ends hpower hdevice hsends hannounces fun hsome => ?_
    rw [outstanding_delivers] at hsome
    rcases hsome with h | h | ⟨q, hq, h⟩
    · exact h hnear
    · exact h hpool
    · exact h (hothers q hq)
  · exact reset_begins_and_drains hpower hdevice hsends hannounces ((outstanding_delivers s p f).2 hsome)
  · have hsame : (s.modPort p fun r => { r with transmitter := none }).Outstanding ↔ (s.delivers p f).Outstanding :=
      outstanding_congr (fun x => by cases x <;> rfl) fun q => by
        rw [State.delivers, port_modPort, port_modPort]
        split <;> rfl
    rw [hsame]
    exact draining_transmission hpower hd hrest hsends
  · exact draining_operation hpower hd hcanonical hop hc
  · exact draining_linkDown hpower hd hup hnone

end Sys2Proof.Machine
end

section
/-! PROOFS. The reporting unit (chapter 7): which records are urgent, when a batch is due, what the transmitter begins and what its choice does with a pending frame (R105, R106, R108, R135, R138 to R141, R148, R153). -/

namespace Sys2Proof.Machine

/-! ### Urgency and the batch -/

theorem urgent_done_iff (tag : Tag) (st : Status) (reason : Option Status) (done : Option (BitVec 16)) (fault : Option (BitVec 40))
    (value : Option (BitVec 32)) (mark : DoneMark) : (Record.done tag st reason done fault value mark).urgent = true ↔ mark ≠ .plain := by
  simp [Record.urgent]

/-- The access request whose DONE record is urgent is a WRITE with its flush flag set (R105). -/
theorem doneMark_ne_plain_iff (ops : Operands) : ops.doneMark ≠ .plain ↔ ∃ a data, ops = .write a true data := by
  cases ops with
  | write a flush data => cases flush <;> simp [Operands.doneMark]
  | _ => simp [Operands.doneMark]

/-- The statuses that do not count as faults (R108). -/
theorem isFaulted_iff (st : Status) : st.isFaulted = true ↔ ¬(st = .ok ∨ st = .queued ∨ st = .partialDone) := by
  cases st <;> simp [Status.isFaulted]

section
variable (r : PortRec)

theorem batchDue_iff :
    r.batchDue = true ↔
      r.completionQueue ≠ []
        ∧ ((∃ x ∈ r.completionQueue, x.urgent = true)
          ∨ (r.wake = .normal ∧ r.countThreshold ≠ 0 ∧ r.countThreshold ≤ r.completionQueue.length)
          ∨ (r.wake = .awaiting ∧ r.heldThreshold ≠ 0 ∧ r.heldThreshold ≤ r.completionQueue.length)
          ∨ r.timer = .expired ∨ 16 ≤ r.completionQueue.length ∨ r.dataSlot ≠ none) := by
  simp only [PortRec.batchDue, Bool.and_eq_true, Bool.or_eq_true, Bool.not_eq_true', List.isEmpty_eq_false_iff, List.any_eq_true,
    beq_iff_eq, bne_iff_ne, decide_eq_true_eq, Option.isSome_iff_ne_none, or_assoc, and_assoc]
  exact Iff.rfl

theorem batchWakes_iff :
    r.batchWakes = true ↔
      r.wake = .normal ∨ (∃ x ∈ r.completionQueue.take 16, x.urgent = true) ∨ ∃ f, r.dataSlot = some f ∧ f.flush = true := by
  simp only [PortRec.batchWakes, PortRec.batchRecords, Config.batchLimit, Bool.or_eq_true, beq_iff_eq, List.any_eq_true, Option.any_eq_true,
    or_assoc]

end

section
variable {r : PortRec}

/-- A waiting DATA frame makes a batch due, so that without one no record waits beside it (R138). -/
theorem completionQueue_of_dataSlot {f : SlotFrame} (hdue : r.batchDue = false) (hslot : r.dataSlot = some f) : r.completionQueue = [] := by
  by_contra hsome
  have : r.batchDue = true := (batchDue_iff r).2 ⟨hsome, .inr (.inr (.inr (.inr (.inr (by simp [hslot])))))⟩
  simp [hdue] at this

/-- Sixteen records make a batch due, so that without one the queue is shorter (R138). -/
theorem completionQueue_lt_of_not_due (hdue : r.batchDue = false) : r.completionQueue.length < Config.batchLimit := by
  by_contra hlong
  have hlong : 16 ≤ r.completionQueue.length := Nat.le_of_not_lt hlong
  have hsome : r.completionQueue ≠ [] := List.ne_nil_of_length_pos (by omega)
  have : r.batchDue = true := (batchDue_iff r).2 ⟨hsome, .inr (.inr (.inr (.inr (.inl hlong))))⟩
  simp [hdue] at this

/-! ### The frame the transmitter begins -/

theorem beginFrame_of_due (hdue : r.batchDue = true) : r.beginFrame = r.formBatch := by simp [PortRec.beginFrame, hdue]

theorem beginFrame_of_dataSlot {f : SlotFrame} (hdue : r.batchDue = false) (hslot : r.dataSlot = some f) :
    r.beginFrame = { r with transmitter := some (.data f.frame), dataSlot := none } := by
  simp [PortRec.beginFrame, hdue, hslot]

theorem beginFrame_of_nothing (hdue : r.batchDue = false) (hslot : r.dataSlot = none) : r.beginFrame = r := by
  simp [PortRec.beginFrame, hdue, hslot]

/-- The wake mark of the batch that forms, by whatever condition it is told (R140). -/
theorem formBatch_of_wakes {wakes : Bool}
    (hwakes : wakes = true ↔
      r.wake = .normal ∨ (∃ x ∈ r.completionQueue.take 16, x.urgent = true) ∨ ∃ f, r.dataSlot = some f ∧ f.flush = true) :
    r.formBatch =
      { r with
        completionQueue := r.completionQueue.drop 16, transmitter := some (.batch wakes (r.completionQueue.take 16))
        wake := if wakes then .awaiting else r.wake
        timer := if r.tickInterval = 0 then .stopped else .running r.tickInterval } := by
  have hsame : wakes = r.batchWakes := Bool.eq_iff_iff.2 (hwakes.trans (batchWakes_iff r).symm)
  rw [hsame]
  rfl

/-! ### The choice of the transmitter -/

theorem placePending_of_no_place (h : r.dataSlot ≠ none ∨ r.engine.pendingFrame = none) : r.placePending = r := by
  unfold PortRec.placePending
  split
  · rename_i hslot hpending
    simp [hslot, hpending] at h
  · rfl

theorem placePending_of_place {g : SlotFrame} (hslot : r.dataSlot = none) (hpending : r.engine.pendingFrame = some g) :
    r.placePending = { r.countReply g.frame.status with dataSlot := some g, engine := Engine.idle } := by
  simp [PortRec.placePending, hslot, hpending]

/-- A transmitter that is busy, or whose port is not ACTIVE, makes no choice (R148). -/
theorem report_of_not_free (h : r.transmitter ≠ none ∨ r.state ≠ .active) : r.report = r := by
  refine PortRec.report_of_not_canTransmit ?_
  rcases h with hbusy | hclosed
  · simp [PortRec.canTransmit, hbusy]
  · simp [PortRec.canTransmit, hclosed]

/-- A free transmitter of an ACTIVE port begins a frame when there is one, and a pending frame takes the place it leaves (R106, R148). -/
theorem report_of_frame (hfree : r.transmitter = none) (hactive : r.state = .active) (hframe : r.batchDue = true ∨ r.dataSlot ≠ none) :
    r.report = r.beginFrame.placePending := by
  rw [PortRec.report, if_pos]
  simpa [PortRec.canTransmit, hfree, hactive, Option.isSome_iff_ne_none] using hframe

/-- With neither a batch due nor a DATA frame waiting there is nothing to choose (R148). -/
theorem report_of_nothing (hdue : r.batchDue = false) (hslot : r.dataSlot = none) : r.report = r :=
  PortRec.report_of_not_canTransmit (by simp [PortRec.canTransmit, hdue, hslot])

/-- A batch that forms leaves the data slot as it is, so that a pending frame stays pending while the slot is full (R106, R148). -/
theorem report_of_due (hfree : r.transmitter = none) (hactive : r.state = .active) (hdue : r.batchDue = true)
    (h : r.dataSlot ≠ none ∨ r.engine.pendingFrame = none) : r.report = r.beginFrame := by
  rw [report_of_frame hfree hactive (.inl hdue), beginFrame_of_due hdue]
  exact placePending_of_no_place h

/-- The choice of a transmitter with no pending frame is the frame it begins (R148). -/
theorem report_of_no_pending (hfree : r.transmitter = none) (hactive : r.state = .active) (hnone : r.engine.pendingFrame = none) :
    r.report = r.beginFrame := by
  cases hdue : r.batchDue with
  | true => exact report_of_due hfree hactive hdue (.inr hnone)
  | false =>
      cases hslot : r.dataSlot with
      | none => rw [report_of_nothing hdue hslot, beginFrame_of_nothing hdue hslot]
      | some f =>
          rw [report_of_frame hfree hactive (.inr (by simp [hslot])), beginFrame_of_dataSlot hdue hslot]
          exact placePending_of_no_place (.inr hnone)

/-- A DATA frame that goes out makes room in the slot for the pending frame, and the engine is IDLE (R106, R108). -/
theorem report_of_pending {f g : SlotFrame} (hfree : r.transmitter = none) (hactive : r.state = .active) (hdue : r.batchDue = false)
    (hslot : r.dataSlot = some f) (hpending : r.engine.pendingFrame = some g) :
    r.report =
      { r with
        transmitter := some (.data f.frame), dataSlot := some g, engine := Engine.idle
        faultedReplies :=
          if g.frame.status = .ok ∨ g.frame.status = .queued ∨ g.frame.status = .partialDone then r.faultedReplies
          else r.faultedReplies + 1 } := by
  rw [report_of_frame hfree hactive (.inr (by simp [hslot])), beginFrame_of_dataSlot hdue hslot]
  refine (placePending_of_place (r := { r with transmitter := some (.data f.frame), dataSlot := none }) rfl hpending).trans ?_
  by_cases hfault : g.frame.status.isFaulted = true
  · rw [PortRec.countReply, if_pos hfault, if_neg ((isFaulted_iff _).1 hfault)]
  · rw [PortRec.countReply, if_neg hfault, if_pos (not_not.1 (mt (isFaulted_iff _).2 hfault))]

end

/-! ### The obligations about a step and about the reporting unit -/

/-- Settles O1: by the definition of a step, on a queue with a command and on an empty one. -/
theorem stepTakesTheFrontCommand : Obligations.StepTakesTheFrontCommand := by
  refine ⟨fun c rest s => rfl, fun s hempty => ?_⟩
  rw [step, hempty]

/-- Settles O53: the batch, the frame begun, the placing of a pending frame, and the choice of all transmitters, each by its own lemma. -/
theorem batchesForm : Obligations.BatchesForm := by
  refine ⟨fun r => ⟨batchDue_iff r, fun wakes hwakes hdue _ _ => ?_, fun f hdue hslot => ?_, beginFrame_of_nothing, report_of_not_free,
      fun hfree hactive => ⟨report_of_nothing, report_of_due hfree hactive, fun _ => report_of_no_pending hfree hactive,
        fun f g => report_of_pending hfree hactive⟩⟩,
    urgent_done_iff, fun _ _ => rfl, fun _ => rfl, fun _ _ => rfl, fun _ _ _ _ => rfl, doneMark_ne_plain_iff,
    fun s => ⟨fun hdrain => ?_, fun hdrain => ⟨?_, port_reportAll hdrain⟩⟩⟩
  · rw [beginFrame_of_due hdue, formBatch_of_wakes hwakes]
  · exact ⟨completionQueue_of_dataSlot hdue hslot, beginFrame_of_dataSlot hdue hslot⟩
  · rw [State.reportAll, if_pos hdrain]
  · rw [State.reportAll, hdrain]
    rfl

end Sys2Proof.Machine
end

section
/-! PROOFS. What follows at an event that has changed the records of ports and the alert latches alone; and the requests that end at their taking by a refusal, a DATA frame or the announcement of a device reset (R88, R89, R105, R106, R163, R184, R191). -/

namespace Sys2Proof.Machine

/-! ### After a change of port records and latches -/

/-- t follows a state s at rest, with no device reset in progress, by a change of ports' records and alert latches alone: no port has changed its state, and none has become idle for a fence. -/
structure StirsPorts (s t : State) : Prop where
  rest : s.AtRest
  operating : s.draining = false
  same : t.butLatches = s.butLatches
  states : ∀ q : Port, (t.port q).state = (s.port q).state
  idle : ∀ q : Port, (t.port q).fenceIdle = true → (s.port q).fenceIdle = true

/-- A change of one port's record that keeps its state and does not make it idle for a fence. -/
theorem StirsPorts.modPort {s : State} {p : Port} {f : PortRec → PortRec} (hrest : s.AtRest) (hdrain : s.draining = false)
    (hstate : (f (s.port p)).state = (s.port p).state) (hidle : (f (s.port p)).fenceIdle = true → (s.port p).fenceIdle = true) :
    StirsPorts s (s.modPort p f) := by
  refine ⟨hrest, hdrain, rfl, fun q => ?_, fun q => ?_⟩
  · rw [port_modPort]
    split
    · subst_vars
      exact hstate
    · rfl
  · rw [port_modPort]
    split
    · subst_vars
      exact hidle
    · exact id

section
variable {s t : State} (h : StirsPorts s t)
include h

theorem StirsPorts.draining : t.draining = false := (congrArg State.draining h.same :).trans h.operating

/-- No reset of a port is done, no slot can be offered, no fence is met: housekeeping finds nothing to do (R47, R167, R172). -/
theorem StirsPorts.housekeep : t.housekeep = t := by
  obtain ⟨_, _, _, hwork, _⟩ := h.rest
  obtain ⟨_, hreset, hoffer, hfence⟩ := hwork h.operating
  have hop : ∀ r, t.hasOp r = s.hasOp r := fun r => (congrArg (fun u : State => u.hasOp r) h.same :)
  have hslot : ∀ i, t.slot i = s.slot i := fun i => (congrArg (fun u : State => u.slot i) h.same :)
  have hnext : t.nextOffered = s.nextOffered := (congrArg State.nextOffered h.same :)
  refine housekeep_of_idle h.draining (fun q hq => ?_) (fun i => ?_) (fenceMet_eq_false_of hfence (congrArg State.fence h.same :) h.idle)
  · rw [h.states] at hq
    rw [hop, hreset q hq]
  · rw [hslot, hnext]
    exact hoffer i

/-- The arbiters find nothing to take after the transmitters' choice (R79). -/
theorem StirsPorts.arbitersTake : t.reportAll.arbitersTake = t.reportAll := by
  obtain ⟨_, hnear, hext, _⟩ := h.rest
  have hsame : t.reportAll.butLatches = s.butLatches := (butLatches_of_butPorts (reportAll_keeps t)).trans h.same
  have hready : ∀ x, t.reportAll.arbiterReady x = s.arbiterReady x := fun x =>
    (congrArg (fun u : State => u.arbiterReady x) hsame :)
  exact arbitersTake_of_not_ready ((hready .near).trans hnear) ((hready .external).trans hext)

/-- What follows is the transmitters' choice (R148). -/
theorem StirsPorts.dispatchWork : t.housekeep.dispatchWork = t.reportAll := by rw [h.housekeep, State.dispatchWork, h.arbitersTake]

/-- Where the change and the choice let no engine take that could not take before, none may take (R88). -/
theorem StirsPorts.takers (hmay : ∀ q : Port, (t.port q).report.mayTake = true → (s.port q).mayTake = true) : t.reportAll.takers = [] := by
  obtain ⟨htake, _⟩ := h.rest
  have hreset : t.reportAll.deviceReset = s.deviceReset :=
    (congrArg State.deviceReset ((butLatches_of_butPorts (reportAll_keeps t)).trans h.same) :)
  refine takers_eq_nil.2 fun q => ?_
  have hbefore := htake q
  simp only [State.canTake, hreset, port_reportAll h.draining, Bool.and_eq_false_iff] at hbefore ⊢
  refine hbefore.imp (fun hnot => ?_) id
  by_contra hafter
  rw [hmay q (by simpa using hafter)] at hnot
  cases hnot

/-- With no engine that may take a request, the event settles by the transmitters' choice alone (R88, R148). -/
theorem StirsPorts.settle (hmay : ∀ q : Port, (t.port q).report.mayTake = true → (s.port q).mayTake = true) (n : Nat) :
    State.settle n t = t.reportAll := by
  cases n with
  | zero => exact h.dispatchWork
  | succ n =>
      have hbefore : t.housekeep.beforeTaking = t.reportAll := by
        rw [h.housekeep, beforeTaking_of_no_takers (h.takers hmay), State.dispatchWork, h.arbitersTake]
      rw [State.settle, hbefore, State.thenTake, h.takers hmay]

end

/-- At rest, with no device reset in progress, no transmitter has a frame to begin (R148). -/
theorem canTransmit_of_atRest {s : State} (hrest : s.AtRest) (hdrain : s.draining = false) (q : Port) : (s.port q).canTransmit = false := by
  obtain ⟨_, _, _, hwork, _⟩ := hrest
  exact (hwork hdrain).1 q

/-- The transmitters' choice after a change of one port's record is that port's (R148). -/
theorem reportAll_modPort {s : State} (hrest : s.AtRest) (hdrain : s.draining = false) (p : Port) (f : PortRec → PortRec) :
    (s.modPort p f).reportAll = s.modPort p fun r => (f r).report := by
  rw [reportAll_eq_modPort (s := s.modPort p f) hdrain p fun q hq => by
    rw [port_modPort_of_ne s (Ne.symm hq)]; exact canTransmit_of_atRest hrest hdrain q]
  exact modPort_modPort s p _ _

/-- A reply that leaves its port busy for a fence is followed by the port's transmitter's choice, and by nothing else (R148). -/
theorem busy_settled {s : State} {p : Port} {f : PortRec → PortRec} (hrest : s.AtRest) (hdrain : s.draining = false)
    (hstate : (f (s.port p)).state = (s.port p).state) (hbusy : (f (s.port p)).fenceIdle = false) :
    (s.modPort p f).housekeep.dispatchWork = s.modPort p fun r => (f r).report := by
  have hstirs : StirsPorts s (s.modPort p f) := .modPort hrest hdrain hstate fun h => absurd (hbusy.symm.trans h) Bool.false_ne_true
  rw [hstirs.dispatchWork, reportAll_modPort hrest hdrain]

/-! ### The reply by a DATA frame -/

@[simp] theorem completionQueue_countReply (r : PortRec) (st : Status) : (r.countReply st).completionQueue = r.completionQueue := by
  unfold PortRec.countReply
  split <;> rfl

theorem state_replyData (r : PortRec) (f : DataFrame) (flush : Bool) : (r.replyData f flush).state = r.state := by
  unfold PortRec.replyData
  split
  · exact state_countReply _ _
  · rfl

/-- A port with a DATA frame to send is not idle for a fence: the frame is in the slot, or its engine is in REPLY_WAIT (R106, R154, R167). -/
theorem fenceIdle_replyData {r : PortRec} (h : r.state = .active) (f : DataFrame) (flush : Bool) : (r.replyData f flush).fenceIdle = false := by
  unfold PortRec.replyData
  split
  · simp [PortRec.fenceIdle, PortRec.idleReport, h]
  · simp [PortRec.fenceIdle, h]

/-- The DATA reply to a request just taken at a ready port, and what follows it (R106, R148). -/
theorem replyData_settled {s : State} {p : Port} (h : s.Ready p) (r : Request) (f : DataFrame) (flush : Bool := false) :
    ((s.modPort p fun x => x.engaged r).modPort p fun x => x.replyData f flush).housekeep.dispatchWork = s.answeredData p r f flush := by
  obtain ⟨⟨_, hdrain, hrest, _⟩, hactive, _⟩ := h
  rw [modPort_modPort, busy_settled hrest hdrain (state_replyData _ f flush) (fenceIdle_replyData (r := (s.port p).engaged r) hactive f flush)]
  rfl

/-! ### The refusals at the taking -/

theorem answeredByData_iff (kind : Byte) : answeredByData kind = true ↔ kind ∈ ([0x10, 0x12, 0x18, 0x23, 0x41] : List Byte) := by
  simp [answeredByData, or_assoc]

/-- A refusal of a request just taken at a ready port, and what follows it: in a DATA frame for the kinds that one answers (R89, R192). -/
theorem replyRefusal_settled {s : State} {p : Port} (h : s.Ready p) (r : Request) (st : Status) :
    ((s.modPort p fun x => x.engaged r).replyRefusal p r.kind r.tag st).housekeep.dispatchWork =
      if answeredByData r.kind then s.answeredData p r { tag := r.tag, status := st } else s.answered p r.tag st := by
  unfold State.replyRefusal
  split
  · exact replyData_settled h r { tag := r.tag, status := st }
  · exact replyDone_settled h r r.tag st none

/-- BATCH_ACK is no request of the table of 10.2. -/
theorem kind_ne_batchAck_of_readOperands {r : Request} {ops : Operands} (h : readOperands r = some ops) : r.kind ≠ 0x50 := by
  intro hkind
  simp [readOperands, hkind] at h

/-- The administrative requests that a DATA frame answers are PHYS_READ and COUNTERS (R89, R192). -/
theorem answeredByData_administrative {r : Request} {ops : Operands} (h : readOperands r = some ops) (hadmin : ops.administrative = true) :
    answeredByData r.kind = true ↔ r.kind = 0x18 ∨ r.kind = 0x41 := by
  have hothers : r.kind ≠ 0x10 ∧ r.kind ≠ 0x12 ∧ r.kind ≠ 0x23 := by
    refine ⟨?_, ?_, ?_⟩ <;>
    · intro hkind
      simp [readOperands, hkind] at h
      obtain ⟨_, rfl⟩ := h
      cases hadmin
  obtain ⟨hread, hprobe, hquery⟩ := hothers
  simp only [answeredByData, Bool.or_eq_true, beq_iff_eq, hread, hprobe, hquery, or_false, false_or]

/-- The request of a command at a ready port, no BATCH_ACK and of a payload that the receiver lets pass, is taken at its arrival (R88, R159 to R161). -/
theorem exec_taken {s : State} {p : Port} {c : Instr} {r : Request} (h : s.Ready p) (hc : c.request = some (p, r))
    (hlen : r.payload.length ≤ 272) (hack : ¬(r.kind = 0x50 ∧ r.payload = [])) :
    exec c s = .next (((s.modPort p fun x => x.engaged r).examine p r).housekeep.dispatchWork) := by
  have hkind : (r.kind = batchAckKind && r.payload.isEmpty) = false := by
    rw [← Bool.not_eq_true, Bool.and_eq_true, decide_eq_true_eq, List.isEmpty_iff]
    exact hack
  rw [exec_eq_requestEvent (by rw [hc]; rfl), State.requestEvent, hc]
  exact arrival_taken h r hlen hkind

/-- Settles O13: the arrival, the examination that finds no operands, and the refusal by kind. -/
theorem malformedRequestsAreAnswered : Obligations.MalformedRequestsAreAnswered := by
  intro s p kind tag payload hready hnone hack hlen
  rw [exec_taken (c := .malformedRequest p kind tag payload) hready rfl hlen hack, State.examine, hnone]
  simp only [← answeredByData_iff]
  exact congrArg _ (replyRefusal_settled hready ⟨kind, tag, payload⟩ .malformed)

/-- Settles O14: the arrival, the examination of the class, and the refusal by kind. -/
theorem userPortsAreNotPermitted : Obligations.UserPortsAreNotPermitted := by
  intro s p c r ops hready hcls hc hlen hops hadmin
  have hrefused : (s.modPort p fun x => x.engaged r).examine p r = (s.modPort p fun x => x.engaged r).replyRefusal p r.kind r.tag .notPermitted := by
    have hclass : ((s.modPort p fun x => x.engaged r).port p).cls = .user := by rw [port_modPort_self]; exact hcls
    rw [State.examine, hops]
    simp only [hadmin, hclass]
    rfl
  rw [exec_taken hready hc hlen fun h => kind_ne_batchAck_of_readOperands hops h.1, hrefused, replyRefusal_settled hready]
  simp only [answeredByData_administrative hops hadmin]

/-! ### DEVICE_RESET -/

/-- A DONE reply to a request just taken at a port with an empty request queue, whatever its mark. -/
theorem replyDone_engaged {x : PortRec} (h : x.requestQueue = []) (r : Request) (tag : Tag) (st : Status) (mark : DoneMark) :
    (x.engaged r).replyDone tag st none none none none mark = x.replied tag st none none mark := by
  cases hst : st.isFaulted <;> simp [PortRec.replyDone, PortRec.replied, PortRec.engaged, PortRec.countReply, PortRec.addRecord, h, hst]

theorem state_replyDone (r : PortRec) (tag : Tag) (st : Status) (mark : DoneMark) :
    (r.replyDone tag st none none none none mark).state = r.state := state_countReply _ _

/-- An ACTIVE port with the record of a reply in its queue is not idle for a fence (R154, R167). -/
theorem fenceIdle_replyDone {r : PortRec} (h : r.state = .active) (tag : Tag) (st : Status) (mark : DoneMark) :
    (r.replyDone tag st none none none none mark).fenceIdle = false := by
  simp [PortRec.fenceIdle, PortRec.idleReport, PortRec.replyDone, PortRec.addRecord, h]

/-- A DONE reply, whatever its mark, to a request just taken at an ACTIVE port, and what follows it (R148). -/
theorem marked_settled {s : State} {p : Port} (hrest : s.AtRest) (hdrain : s.draining = false) (hactive : (s.port p).state = .active)
    (hqueue : (s.port p).requestQueue = []) (r : Request) (tag : Tag) (st : Status) (mark : DoneMark) :
    ((s.modPort p fun x => x.engaged r).modPort p fun x => x.replyDone tag st none none none none mark).housekeep.dispatchWork =
      s.modPort p fun x => (x.replied tag st none none mark).report := by
  have hbusy := fenceIdle_replyDone (r := (s.port p).engaged r) hactive tag st mark
  rw [modPort_modPort, busy_settled hrest hdrain (state_replyDone _ tag st mark) hbusy, State.modPort, State.modPort, replyDone_engaged hqueue]

/-- The announcement of a device reset leaves nothing to do: it only shuts one engine out of taking (R184). -/
theorem atRest_announced {s : State} (h : s.AtRest) (hnone : s.deviceReset = .none) (p : Port) :
    ({ s with deviceReset := .announced p } : State).AtRest := by
  obtain ⟨htake, hnear, hext, hwork, _⟩ := h
  have hdrain : s.draining = false := by simp [State.draining, hnone]
  have hsame : ({ s with deviceReset := .announced p } : State).draining = s.draining := by simp [State.draining, hnone]
  refine ⟨fun q => ?_, ?_, ?_, fun _ => hwork hdrain, fun hd => ?_⟩
  · have hcannot : (s.port q).mayTake = false := by simpa [State.canTake, hnone, DeviceReset.allows] using htake q
    exact Bool.and_eq_false_iff.2 (.inl hcannot)
  · rw [State.arbiterReady, hsame]
    exact hnear
  · rw [State.arbiterReady, hsame]
    exact hext
  · rw [hsame, hdrain] at hd
    cases hd

/-- Settles O32: the arrival of the DEVICE_RESET at a ready port, the announcement or the refusal, and the transmitter's choice. -/
theorem deviceResetIsAnnounced : Obligations.DeviceResetIsAnnounced := by
  intro s p tag hready hcls
  obtain ⟨⟨_, hdrain, hrest, hqueue⟩, hactive, _⟩ := id hready
  have hexec := exec_request (c := .deviceReset p tag) (r := ⟨0x4F, tag, []⟩) (ops := .deviceReset) hready rfl (Nat.zero_le _) rfl (.inr hcls)
  rw [State.carryOut] at hexec
  refine ⟨fun hnone => ?_, fun q hannounced => ?_, urgent_done_iff _ _ _ _ _ _, fun t hannounced => ?_⟩
  · rw [hexec, State.takeDeviceReset, modPort_deviceReset, hnone]
    exact congrArg _ (marked_settled (atRest_announced hrest hnone p) rfl hactive (hqueue p) ⟨0x4F, tag, []⟩ tag .ok .deviceReset)
  · rw [hexec, State.takeDeviceReset, modPort_deviceReset, hannounced]
    exact congrArg _ (marked_settled hrest hdrain hactive (hqueue p) ⟨0x4F, tag, []⟩ tag .busy .deviceBusy)
  · simp [State.canTake, hannounced, DeviceReset.allows]

end Sys2Proof.Machine
end

section
/-! PROOFS. The receiver (8.2) and an alert occurrence (9.3): which frames are discarded, what becomes of a request offered for admission, and what an occurrence adds to latch and queues (R88, R159 to R161, R179 to R181). -/

namespace Sys2Proof.Machine

/-! ### An occurrence -/

theorem isAlertOf_iff (c : AlertCause) (x : Record) : x.isAlertOf c = true ↔ ∃ count port address, x = .alert c count port address := by
  cases x <;> simp [Record.isAlertOf]

theorem takesAlert_iff (r : PortRec) (c : AlertCause) : r.takesAlert c = true ↔ r.Alerted c := by
  have hnone : (!r.completionQueue.any (Record.isAlertOf c)) = true ↔
      ∀ count port address, Record.alert c count port address ∉ r.completionQueue := by
    simp only [Bool.not_eq_true', List.any_eq_false, isAlertOf_iff]
    exact ⟨fun h count port address hx => h _ hx ⟨count, port, address, rfl⟩, fun h x hx ⟨count, port, address, he⟩ => h _ _ _ (he ▸ hx)⟩
  simp only [PortRec.takesAlert, Bool.and_eq_true, beq_iff_eq, hnone, and_assoc]

section
variable {s : State} (h : s.draining = false) (c : AlertCause) (p : Port) (a : Option (BitVec 32))
include h

/-- An occurrence at a set latch is counted there, and no port is told (R180). -/
theorem occurrence_of_set (hset : (s.latch c).isSet = true) : s.occurrence c p a = s.setLatch c ((s.latch c).after p a) := by
  simp [State.occurrence, Latch.after, h, hset]

/-- An occurrence at a clear latch sets it, and the ports that take an ALERT record of the cause get one (R180, R181). -/
theorem occurrence_of_clear (hclear : (s.latch c).isSet = false) :
    s.occurrence c p a =
      (s.setLatch c ((s.latch c).after p a)).mapPorts fun _ r => if r.takesAlert c then r.addRecord (.alert c 1 (some p) a) else r := by
  simp [State.occurrence, Latch.after, h, hclear]

theorem latch_occurrence (d : AlertCause) : (s.occurrence c p a).latch d = if c = d then (s.latch c).after p a else s.latch d := by
  cases hset : (s.latch c).isSet with
  | true => rw [occurrence_of_set h c p a hset, latch_setLatch]
  | false => rw [occurrence_of_clear h c p a hset, latch_mapPorts, latch_setLatch]

theorem port_occurrence (q : Port) :
    (s.occurrence c p a).port q =
      if (s.latch c).isSet = false ∧ (s.port q).Alerted c then (s.port q).addRecord (.alert c 1 (some p) a) else s.port q := by
  cases hset : (s.latch c).isSet with
  | true => simp [occurrence_of_set h c p a hset]
  | false =>
      rw [occurrence_of_clear h c p a hset, port_mapPorts, port_setLatch]
      simp only [takesAlert_iff, true_and]

/-- An occurrence changes the latches and the ports' records alone (R179 to R181). -/
theorem occurrence_frame : s.occurrence c p a = { s with latches := (s.occurrence c p a).latches, ports := (s.occurrence c p a).ports } := by
  cases hset : (s.latch c).isSet with
  | true => rw [occurrence_of_set h c p a hset]; rfl
  | false => rw [occurrence_of_clear h c p a hset]; rfl

end

/-! ### Records added to ports at rest -/

/-- An engine takes only a request that waits (R88). -/
theorem requestQueue_of_mayTake {r : PortRec} (h : r.mayTake = true) : r.requestQueue ≠ [] := by
  intro hqueue
  simp [PortRec.mayTake, hqueue] at h

/-- x is a port's record r with more records in its queue, its counts and its parameters left open. -/
structure PortRec.Fuller (r x : PortRec) : Prop where
  state : x.state = r.state
  engine : x.engine = r.engine
  requests : x.requestQueue = r.requestQueue
  fenced : x.fenced = r.fenced
  slot : x.dataSlot = r.dataSlot
  transmitter : x.transmitter = r.transmitter
  records : r.completionQueue.length ≤ x.completionQueue.length

theorem PortRec.Fuller.refl (r : PortRec) : r.Fuller r := ⟨rfl, rfl, rfl, rfl, rfl, rfl, le_refl _⟩

theorem PortRec.Fuller.addRecord {r x : PortRec} (h : r.Fuller x) (y : Record) : r.Fuller (x.addRecord y) :=
  ⟨h.state, h.engine, h.requests, h.fenced, h.slot, h.transmitter, by
    rw [PortRec.addRecord, List.length_append]
    exact Nat.le_add_right_of_le h.records⟩

section
variable {r x : PortRec} (h : r.Fuller x)
include h

/-- More records do not make a port idle for a fence (R154, R167). -/
theorem PortRec.Fuller.fenceIdle (hidle : x.fenceIdle = true) : r.fenceIdle = true := by
  have hempty : x.completionQueue = [] → r.completionQueue = [] := fun hx => List.eq_nil_of_length_eq_zero (by simpa [hx] using h.records)
  simp only [PortRec.fenceIdle, PortRec.idleReport, h.state, h.engine, h.slot, h.transmitter, Bool.or_eq_true, Bool.and_eq_true,
    List.isEmpty_iff] at hidle ⊢
  exact hidle.imp id fun ⟨hengine, ⟨hqueue, hslot⟩, hfree⟩ => ⟨hengine, ⟨hempty hqueue, hslot⟩, hfree⟩

/-- More records do not let an engine take (R88). -/
theorem PortRec.Fuller.mayTake (hmay : x.mayTake = true) : r.mayTake = true := by
  have hshort : x.completionQueue.length < Config.batchLimit → r.completionQueue.length < Config.batchLimit := h.records.trans_lt
  simp only [PortRec.mayTake, h.state, h.engine, h.requests, h.fenced, Bool.and_eq_true, decide_eq_true_eq] at hmay ⊢
  exact hmay.imp id hshort

/-- Where a transmitter had nothing to begin, its choice of the records added lets no engine take that could not take before: it empties the queue of a port that had room before, and no frame is pending that it could place (R88, R106, R138). -/
theorem PortRec.Fuller.mayTake_report (hnothing : r.canTransmit = false) (hnone : r.transmitter = none → r.engine.pendingFrame = none)
    (hmay : x.report.mayTake = true) : r.mayTake = true := by
  by_cases hfree : r.transmitter = none ∧ r.state = .active
  · obtain ⟨hfree, hactive⟩ := hfree
    have hroom : r.completionQueue.length < Config.batchLimit := by
      refine completionQueue_lt_of_not_due ?_
      simp only [PortRec.canTransmit, hfree, hactive] at hnothing
      simpa using (Bool.or_eq_false_iff.1 hnothing).1
    have hchosen : x.report = x.beginFrame :=
      report_of_no_pending (h.transmitter.trans hfree) (h.state.trans hactive) (by rw [h.engine]; exact hnone hfree)
    have hkept : x.beginFrame.engine = x.engine ∧ x.beginFrame.fenced = x.fenced := by
      unfold PortRec.beginFrame
      split
      · exact ⟨rfl, rfl⟩
      · split <;> exact ⟨rfl, rfl⟩
    simp only [PortRec.mayTake, hchosen, state_beginFrame, requestQueue_beginFrame, hkept, h.state, h.engine, h.requests, h.fenced,
      Bool.and_eq_true, decide_eq_true_eq] at hmay ⊢
    exact hmay.imp id fun _ => hroom
  · have hsame : x.report = x := by
      refine report_of_not_free ?_
      rw [h.transmitter, h.state]
      exact Decidable.not_and_iff_or_not.1 hfree
    rw [hsame] at hmay
    exact h.mayTake hmay

end

/-- Records added to ports of a state at rest stir no more than the ports. -/
theorem StirsPorts.of_fuller {s t : State} (hrest : s.AtRest) (hdrain : s.draining = false) (hsame : t.butLatches = s.butLatches)
    (hfuller : ∀ q : Port, (s.port q).Fuller (t.port q)) : StirsPorts s t :=
  ⟨hrest, hdrain, hsame, fun q => (hfuller q).state, fun q => (hfuller q).fenceIdle⟩

/-! ### A count raised with an occurrence -/

section
variable {s : State} (hdrain : s.draining = false) {p : Port} {f : PortRec → PortRec} (hf : (s.port p).Fuller (f (s.port p))) (c : AlertCause)
include hdrain hf

theorem fuller_counted (q : Port) : (s.port q).Fuller (((s.modPort p f).occurrence c p none).port q) := by
  have hcounted : (s.port q).Fuller ((s.modPort p f).port q) := by
    rw [port_modPort]
    split
    · subst_vars
      exact hf
    · exact .refl _
  rw [port_occurrence (s := s.modPort p f) hdrain]
  split
  · exact hcounted.addRecord _
  · exact hcounted

/-- Where no frame is pending that a choice could place, or no request waits, the event settles by the transmitters' choice (R88, R148). -/
theorem counted_settled (hrest : s.AtRest)
    (hquiet : ∀ q : Port, ((s.port q).transmitter = none → (s.port q).engine.pendingFrame = none) ∨ (s.port q).requestQueue = []) (n : Nat) :
    State.settle n ((s.modPort p f).occurrence c p none) = ((s.modPort p f).occurrence c p none).reportAll := by
  have hfuller := fuller_counted hdrain hf c
  refine (StirsPorts.of_fuller hrest hdrain (occurrence_keeps (s.modPort p f) c p none) hfuller).settle (fun q hmay => ?_) n
  rcases hquiet q with hnone | hqueue
  · exact (hfuller q).mayTake_report (canTransmit_of_atRest hrest hdrain q) hnone hmay
  · have hrequests := requestQueue_of_mayTake hmay
    rw [requestQueue_report, (hfuller q).requests] at hrequests
    exact absurd hqueue hrequests

end

/-! ### Reading a frame -/

theorem length_payload (bytes : List Byte) : ((bytes.drop 4).take (bytes.length - 6)).length = bytes.length - 6 := by
  rw [List.length_take, List.length_drop]
  omega

/-- The frames that the receiver discards (R159). -/
theorem readFrame_eq_none {bytes : List Byte}
    (h : bytes.length < 6 ∨ frameCheck (bytes.take (bytes.length - 2)) ≠ BitVec.ofNat 16 (payloadField bytes (bytes.length - 2) 2)
      ∨ payloadField bytes 2 2 ≠ bytes.length - 6 ∨ bytes.length - 6 > 272) : readFrame bytes = none := by
  simp only [readFrame, length_payload, Config.payloadLimit]
  rcases h with hshort | hcheck | hfield | hlong
  · rw [if_pos hshort]
  · rw [if_pos hcheck, ite_self]
  · rw [if_pos hfield, ite_self, ite_self]
  · rw [if_pos hlong, ite_self, ite_self, ite_self]

/-- The frames that pass the receiver's tests, and the request that they carry (R159, R160). -/
theorem readFrame_eq_some {bytes : List Byte} (hlen : 6 ≤ bytes.length) (hshort : bytes.length - 6 ≤ 272)
    (hcheck : frameCheck (bytes.take (bytes.length - 2)) = BitVec.ofNat 16 (payloadField bytes (bytes.length - 2) 2))
    (hfield : payloadField bytes 2 2 = bytes.length - 6) :
    readFrame bytes = some ⟨bytes.getD 0 0, bytes.getD 1 0, (bytes.drop 4).take (bytes.length - 6)⟩ := by
  simp only [readFrame, length_payload, Config.payloadLimit]
  rw [if_neg (Nat.not_lt.2 hlen), if_neg (not_not.2 hcheck), if_neg (not_not.2 hfield), if_neg (Nat.not_lt.2 hshort)]
  rfl

/-! ### The arrival of a frame -/

section
variable {s : State} {p : Port}

theorem event_of_operating (hpower : s.power = .operating) {effect : State → State} {t : State} (he : effect s = t) :
    s.event effect = .next (State.settle t.queuedRequests t) := by rw [State.event, if_pos hpower, he]

theorem receives_of_active (hdrain : s.draining = false) (hactive : (s.port p).state = .active) : s.receives p = true := by
  simp [State.receives, hactive, hdrain]

/-- A request that finds the request queue full is refused while the completion queue has room, else it is an overrun (R161). -/
theorem admitRequest_of_full {r : Request} (hfull : (s.port p).requestQueue.length = 8) :
    s.admitRequest p r =
      if (s.port p).completionQueue.length < 24 then s.addRecord p (.done r.tag .busy none none none none .plain)
      else (s.modPort p fun x => { x with overruns := x.overruns + 1 }).occurrence .overrun p none :=
  if_neg (by rw [hfull]; exact lt_irrefl 8)

/-- A frame that fails a test of the receiver is discarded (R159). -/
theorem exec_discarded (hpower : s.power = .operating) (hreceives : s.receives p = true) {bytes : List Byte} (h : readFrame bytes = none) :
    exec (.requestAdmission p bytes) s = .next (State.settle (s.discardFrame p).queuedRequests (s.discardFrame p)) :=
  event_of_operating (effect := fun u => u.arriveBytes p bytes) hpower <| by
    show s.arriveBytes p bytes = _
    rw [State.arriveBytes, if_pos hreceives, h]

/-- A command that brings a request to a port whose receiver is open offers it for admission (R160). -/
theorem exec_offered (hpower : s.power = .operating) (hreceives : s.receives p = true) {c : Instr} {r : Request}
    (h : BringsRequest c p r) : exec c s = .next (State.settle (s.admitRequest p r).queuedRequests (s.admitRequest p r)) := by
  obtain ⟨hack, hbrings⟩ := h
  have haccept : s.acceptFrame p r = s.admitRequest p r := by
    refine if_neg ?_
    rw [Bool.and_eq_true, decide_eq_true_eq, List.isEmpty_iff]
    exact hack
  rcases hbrings with ⟨hc, hlen⟩ | ⟨bytes, rfl, hlen, hshort, hcheck, hfield, rfl⟩
  · rw [exec_eq_requestEvent (by rw [hc]; rfl), State.requestEvent, hc]
    have harrive : s.arrive p r = s.admitRequest p r := by rw [State.arrive, if_pos hreceives, ← haccept]; exact if_neg (Nat.not_lt.2 hlen)
    exact event_of_operating (effect := fun u => u.arrive p r) hpower harrive
  · refine event_of_operating (effect := fun u => u.arriveBytes p bytes) hpower ?_
    show s.arriveBytes p bytes = _
    rw [State.arriveBytes, if_pos hreceives, readFrame_eq_some hlen hshort hcheck hfield]
    exact haccept

end

/-! ### What becomes of a frame -/

/-- A discarded frame is counted and its occurrence taken; then the transmitters choose (R148, R159). -/
theorem discarded_settled {s : State} {p : Port} (h : s.Quiet) (n : Nat) : State.settle n (s.discardFrame p) = (s.discardFrame p).reportAll := by
  obtain ⟨_, hdrain, hrest, hqueue⟩ := h
  exact counted_settled hdrain ⟨rfl, rfl, rfl, rfl, rfl, rfl, le_refl _⟩ .linkDiscard hrest (fun q => .inr (hqueue q)) n

section
variable {s : State} {p : Port} (hrest : s.AtRest) (hdrain : s.draining = false)
include hrest hdrain

/-- A request accepted while the engine is busy waits in the queue (R88, R161). -/
theorem accepted_settled (r : Request) (hroom : (s.port p).requestQueue.length < 8) (hbusy : (s.port p).engine.state ≠ .idle) (n : Nat) :
    State.settle n (s.admitRequest p r) =
      s.modPort p fun x => { x with requestQueue := x.requestQueue ++ [r], requestsAccepted := x.requestsAccepted + 1 } := by
  have hadmit : s.admitRequest p r =
      s.modPort p fun x => { x with requestQueue := x.requestQueue ++ [r], requestsAccepted := x.requestsAccepted + 1 } := if_pos hroom
  have hstirs : StirsPorts s (s.admitRequest p r) := by
    rw [hadmit]
    exact .modPort hrest hdrain rfl id
  have hnothing : ∀ q, ((s.admitRequest p r).port q).canTransmit = false := fun q => by
    rw [hadmit, port_modPort]
    split <;> exact canTransmit_of_atRest hrest hdrain q
  rw [hstirs.settle (fun q => ?_), reportAll_of_none hnothing, hadmit]
  rw [PortRec.report_of_not_canTransmit (hnothing q), hadmit, port_modPort]
  split
  · subst_vars
    simp [PortRec.mayTake, hbusy]
  · exact id

/-- A request refused BUSY adds its record, and the port's transmitter chooses (R148, R161). -/
theorem refused_settled (r : Request) (hfull : (s.port p).requestQueue.length = 8) (hroom : (s.port p).completionQueue.length < 24)
    (hnone : (s.port p).transmitter = none → (s.port p).engine.pendingFrame = none) (n : Nat) :
    State.settle n (s.admitRequest p r) =
      s.modPort p fun x => (x.addRecord (.done r.tag .busy none none none none .plain)).report := by
  have hadmit : s.admitRequest p r = s.addRecord p (.done r.tag .busy none none none none .plain) := by
    rw [admitRequest_of_full hfull, if_pos hroom]
  have hfuller : ∀ q, (s.port q).Fuller ((s.admitRequest p r).port q) := fun q => by
    rw [hadmit, port_addRecord]
    split
    · exact (PortRec.Fuller.refl _).addRecord _
    · exact .refl _
  have hstirs : StirsPorts s (s.admitRequest p r) := .of_fuller hrest hdrain (by rw [hadmit]; rfl) hfuller
  rw [hstirs.settle (fun q => ?_), hadmit]
  · exact reportAll_modPort hrest hdrain p _
  · by_cases hq : p = q
    · subst hq
      exact (hfuller p).mayTake_report (canTransmit_of_atRest hrest hdrain p) hnone
    · rw [hadmit, port_addRecord, if_neg hq, PortRec.report_of_not_canTransmit (canTransmit_of_atRest hrest hdrain q)]
      exact id

/-- An overrun is counted and its occurrence taken; then the transmitters choose (R148, R161). -/
theorem overrun_settled (r : Request) (hfull : (s.port p).requestQueue.length = 8) (hlong : 24 ≤ (s.port p).completionQueue.length)
    (hnone : ∀ q : Port, (s.port q).transmitter = none → (s.port q).engine.pendingFrame = none) (n : Nat) :
    State.settle n (s.admitRequest p r) =
      ((s.modPort p fun x => { x with overruns := x.overruns + 1 }).occurrence .overrun p none).reportAll := by
  have hadmit : s.admitRequest p r = (s.modPort p fun x => { x with overruns := x.overruns + 1 }).occurrence .overrun p none := by
    rw [admitRequest_of_full hfull, if_neg (Nat.not_lt.2 hlong)]
  rw [hadmit]
  exact counted_settled hdrain ⟨rfl, rfl, rfl, rfl, rfl, rfl, le_refl _⟩ .overrun hrest (fun q => .inl (hnone q)) n

end

/-- Settles O11: the discarded frames, the three ends of an admission, and the occurrence, each by its own lemma. -/
theorem receiverRules : Obligations.ReceiverRules := by
  refine ⟨fun s p bytes hquiet hactive hbad => ?_, fun s p r c hpower hdrain hrest hactive hbrings => ?_, fun s c p a => ⟨fun hdrain => ?_,
    fun hdrain => ?_⟩⟩
  · obtain ⟨hpower, hdrain, _⟩ := id hquiet
    refine ⟨?_, ?_⟩
    · rw [exec_discarded hpower (receives_of_active hdrain hactive) (readFrame_eq_none hbad), discarded_settled hquiet]
      rfl
    · have hlatch : ∀ t : State, t.reportAll.latch .linkDiscard = t.latch .linkDiscard := fun t =>
        (congrArg (fun u : State => u.latch .linkDiscard) (reportAll_keeps t) :)
      rw [hlatch, latch_occurrence (s := s.modPort p _) hdrain, if_pos rfl, latch_modPort]
  · rw [exec_offered hpower (receives_of_active hdrain hactive) hbrings]
    refine ⟨fun hroom hbusy => ?_, fun hfull hroom hnone => ?_, fun hfull hlong hnone => ?_⟩
    · rw [accepted_settled hrest hdrain r hroom hbusy]
    · rw [refused_settled hrest hdrain r hfull hroom hnone]
      rfl
    · rw [overrun_settled hrest hdrain r hfull hlong hnone]
  · rw [State.occurrence, if_pos hdrain]
  · refine ⟨?_, fun d hd => ?_, occurrence_frame hdrain c p a, fun q => ⟨fun hclear halerted => ?_, fun hnot => ?_⟩⟩
    · rw [latch_occurrence hdrain, if_pos rfl]
    · rw [latch_occurrence hdrain, if_neg (Ne.symm hd)]
    · rw [port_occurrence hdrain, if_pos ⟨hclear, halerted⟩]
      rfl
    · rw [port_occurrence hdrain, if_neg]
      rintro ⟨hclear, halerted⟩
      rcases hnot with hset | hnot
      · exact absurd (hclear.symm.trans hset) Bool.false_ne_true
      · exact hnot halerted

end Sys2Proof.Machine
end

section
/-! PROOFS. The lock unit (chapter 6), lock by lock: the next pending port in ring order, a lock that passes on, the tick of the leases, and what a port reset leaves of a lock (R120, R121, R123, R124, R128, R131). -/

namespace Sys2Proof.Machine

/-! ### Ring order -/

theorem getElem_ringAfter (p : Port) {i : Nat} (h : i < (ringAfter p).length) : (ringAfter p)[i] = p + 1 + ⟨i, h⟩ := by
  have hall : ∀ (p : Port) (i : Fin 8), (ringAfter p)[i.val]'i.isLt = p + 1 + i := by decide
  exact hall p ⟨i, h⟩

/-- The place of a port in the order after p. -/
theorem sub_eq_iff_ringAfter (p q : Port) (i : Fin 8) : p + 1 + i = q ↔ i = q - p - 1 := by
  have hall : ∀ p q i : Fin 8, p + 1 + i = q ↔ i = q - p - 1 := by decide
  exact hall p q i

/-- The first port in the order after p with a property (R120). -/
theorem find?_ringAfter_eq_some {p q : Port} {f : Port → Bool} :
    (ringAfter p).find? f = some q ↔ f q = true ∧ ∀ j : Port, (j - p - 1).val < (q - p - 1).val → f j = false := by
  rw [List.find?_eq_some_iff_getElem]
  refine and_congr_right fun _ => ⟨?_, fun h => ⟨(q - p - 1).val, (q - p - 1).isLt, ?_, fun j hj => ?_⟩⟩
  · rintro ⟨i, hi, hq, hbefore⟩ j hj
    rw [getElem_ringAfter, sub_eq_iff_ringAfter] at hq
    have hplace := hbefore (j - p - 1).val (by rw [← hq] at hj; exact hj)
    rw [getElem_ringAfter, (sub_eq_iff_ringAfter p j _).2 rfl] at hplace
    simpa using hplace
  · exact (getElem_ringAfter p (q - p - 1).isLt).trans ((sub_eq_iff_ringAfter p q _).2 rfl)
  · have hlt : j < 8 := hj.trans (q - p - 1).isLt
    rw [getElem_ringAfter, h _ (by rw [← (sub_eq_iff_ringAfter p _ ⟨j, hlt⟩).1 rfl]; exact hj)]
    rfl

/-- The first pending port of a lock after p, counted in steps from p (R120). -/
theorem find?_pending_of_nextAfter {l : Lock} {p k : Port} {tag : Tag} (h : l.nextAfter p k tag) :
    (ringAfter p).find? (fun q => l.pending[q].isSome) = some (p + k) := by
  obtain ⟨hk, hheld, hbefore⟩ := h
  have hsteps : ∀ p j k : Fin 8, k ≠ 0 → (j - p - 1).val < (p + k - p - 1).val → j - p ≠ 0 ∧ j - p < k ∧ p + (j - p) = j := by decide
  refine find?_ringAfter_eq_some.2 ⟨by simp [hheld], fun j hj => ?_⟩
  obtain ⟨hne, hlt, hj⟩ := hsteps p j k hk hj
  have hnone := hbefore (j - p) hne hlt
  simp only [hj] at hnone
  simp [hnone]

theorem find?_pending_eq_none {l : Lock} {p : Port} :
    (ringAfter p).find? (fun q => l.pending[q].isSome) = none ↔ ∀ q : Port, l.pending[q] = none := by
  rw [List.find?_eq_none]
  exact ⟨fun h q => by simpa using h q (mem_ringAfter p q), fun h q _ => by simp [h q]⟩

/-! ### One lock -/

/-- A lock that its owner has left: granted to the first pending port after it, or free (R120). -/
def Lock.passedOn (l : Lock) (departing : Port) : Lock :=
  match (ringAfter departing).find? fun q => l.pending[q].isSome with
  | some q => l.grantedTo q
  | none => { l with owner := none, counter := none }

/-- A lock as the reset of port p leaves it (R131). -/
def Lock.left (p : Port) (l : Lock) : Lock :=
  if l.owner = some p then l.passedOn p else { l with pending := l.pending.set p none }

theorem passedOn_of_nextAfter {l : Lock} {p k : Port} {tag : Tag} (h : l.nextAfter p k tag) : l.passedOn p = l.grantedTo (p + k) := by
  rw [Lock.passedOn, find?_pending_of_nextAfter h]

theorem passedOn_of_none {l : Lock} {p : Port} (h : ∀ q : Port, l.pending[q] = none) :
    l.passedOn p = { l with owner := none, counter := none } := by
  rw [Lock.passedOn, find?_pending_eq_none.2 h]

/-- A lock passes on the same whatever its lease counter (R120, R121). -/
theorem passedOn_tick (l : Lock) (p : Port) : l.tick.passedOn p = l.passedOn p := by
  unfold Lock.passedOn
  simp only [Lock.tick]
  generalize (ringAfter p).find? (fun q => l.pending[q].isSome) = next
  cases next <;> rfl

/-- Every entry of a pending set but one. -/
theorem pending_set (l : Lock) (p q : Port) (tag : Option Tag) : (l.pending.set p tag)[q] = if p = q then tag else l.pending[q] := by
  by_cases h : p = q
  · subst h; simp
  · rw [if_neg h]
    exact Vector.getElem_set_ne _ _ fun e => h (Fin.ext e)

theorem pending_set_none {l : Lock} {p : Port} (h : l.pending[p] = none) : l.pending.set p none = l.pending := by
  refine Vector.ext fun i hi => (pending_set l p ⟨i, hi⟩ none).trans ?_
  split
  · subst_vars
    exact h.symm
  · rfl

/-! ### The lock table -/

section
variable (s : State)

@[simp] theorem lock_mapLocks (f : Lock → Lock) (n : LockId) : ({ s with locks := mapLocks f s.locks } : State).lock n = f (s.lock n) := by
  simp [State.lock, mapLocks]

/-- Only lock n passes on (R120). -/
theorem lock_passLock (n m : LockId) (p : Port) : (s.passLock n p).lock m = if n = m then (s.lock m).passedOn p else s.lock m := by
  simp only [State.passLock]
  split
  · rename_i q hnext
    rw [lock_addRecord, lock_setLock]
    split
    · subst_vars
      rw [Lock.passedOn, hnext]
      rfl
    · rfl
  · rename_i hnone
    rw [lock_setLock]
    split
    · subst_vars
      rw [Lock.passedOn, hnone]
    · rfl

theorem lock_lockLeaves (n m : LockId) (p : Port) : (State.lockLeaves p s n).lock m = if n = m then (s.lock m).left p else s.lock m := by
  simp only [State.lockLeaves]
  split
  · rename_i howns
    rw [lock_passLock]
    split
    · subst_vars
      rw [Lock.left, if_pos howns]
    · rfl
  · rename_i howns
    have hleft : (s.lock n).left p = { s.lock n with pending := (s.lock n).pending.set p none } := if_neg howns
    split
    · rw [lock_setLock]
      split
      · subst_vars
        exact hleft.symm
      · rfl
    · rename_i hwaits
      split
      · subst_vars
        rw [hleft, pending_set_none (by simpa using hwaits)]
      · rfl

/-- A fold of steps over different locks, each of which changes its own lock alone, changes each of them once. -/
theorem lock_foldl {f : State → LockId → State} {g : Lock → Lock}
    (hf : ∀ s n m, (f s n).lock m = if n = m then g (s.lock m) else s.lock m) {l : List LockId} (hl : l.Nodup) (s : State) (m : LockId) :
    (l.foldl f s).lock m = if m ∈ l then g (s.lock m) else s.lock m := by
  induction l generalizing s with
  | nil => rfl
  | cons n l ih =>
      obtain ⟨hn, hl⟩ := List.nodup_cons.1 hl
      rw [List.foldl_cons, ih hl, hf]
      by_cases hm : n = m
      · subst hm
        simp [hn]
      · simp [hm, Ne.symm hm]

theorem nodup_allLocks : allLocks.Nodup := by decide

theorem mem_allLocks (n : LockId) : n ∈ allLocks := by
  have hall : ∀ n : LockId, n ∈ allLocks := by decide
  exact hall n

/-- A port reset goes over every lock (R131). -/
theorem lock_locksLeave (p : Port) (m : LockId) : (s.locksLeave p).lock m = (s.lock m).left p := by
  rw [State.locksLeave, lock_foldl (fun s n m => lock_lockLeaves s n m p) nodup_allLocks, if_pos (mem_allLocks m)]

end

/-! ### The tick of the leases -/

section
variable (s : State)

theorem allLocks_eq : allLocks = List.finRange 32 := by decide

/-- A lock whose lease has expired: its owner, if it has one, has left it (R124). -/
def Lock.expired (l : Lock) : Lock :=
  match l.owner with
  | some p => l.passedOn p
  | none => l

theorem locks_occurrence (c : AlertCause) (p : Port) (a : Option (BitVec 32)) : (s.occurrence c p a).locks = s.locks :=
  (congrArg State.locks (occurrence_keeps s c p a) :)

/-- The expiry of lock n's lease at its owner p, but for the count of expiries: LEASE_LOST, the passing on, the occurrence (R124). -/
def State.losesLease (s : State) (n : LockId) (p : Port) : State :=
  ((s.addRecord p (.leaseLost n)).passLock n p).occurrence .leaseExpired p (some (.ofNat 32 n.val))

theorem expireLease_of_owner {s : State} {n : LockId} {p : Port} (h : (s.lock n).owner = some p) :
    s.expireLease n = { s.losesLease n p with leaseExpiries := (s.losesLease n p).leaseExpiries + 1 } := by
  simp only [State.expireLease, h]
  rfl

theorem expireLease_of_free {s : State} {n : LockId} (h : (s.lock n).owner = none) : s.expireLease n = s := by
  simp only [State.expireLease, h]

theorem lock_losesLease (n m : LockId) (p : Port) : (s.losesLease n p).lock m = if n = m then (s.lock m).passedOn p else s.lock m := by
  rw [State.losesLease, State.lock, locks_occurrence]
  exact lock_passLock _ n m p

/-- Only lock n changes at the expiry of its lease (R124). -/
theorem lock_expireLease (n m : LockId) : (s.expireLease n).lock m = if n = m then (s.lock m).expired else s.lock m := by
  cases howner : (s.lock n).owner with
  | none =>
      rw [expireLease_of_free howner]
      split
      · subst_vars
        rw [Lock.expired, howner]
      · rfl
  | some p =>
      rw [expireLease_of_owner howner]
      refine (lock_losesLease s n m p).trans ?_
      split
      · subst_vars
        rw [Lock.expired, howner]
      · rfl

/-- The expiries of a tick are those of the locks whose counters have come to 0, since no expiry brings another lock's counter there (R124). -/
theorem foldl_expireIfDue {l : List LockId} (hl : l.Nodup) (s : State) :
    l.foldl State.expireIfDue s = (l.filter fun n => (s.lock n).counter = some 0).foldl State.expireLease s := by
  induction l generalizing s with
  | nil => rfl
  | cons n l ih =>
      obtain ⟨hn, hl⟩ := List.nodup_cons.1 hl
      rw [List.foldl_cons, State.expireIfDue]
      by_cases hdue : (s.lock n).counter = some 0
      · have hothers : ∀ m ∈ l, decide (((s.expireLease n).lock m).counter = some 0) = decide ((s.lock m).counter = some 0) := fun m hm => by
          rw [lock_expireLease, if_neg (ne_of_mem_of_not_mem hm hn).symm]
        rw [if_pos hdue, List.filter_cons_of_pos (by simpa using hdue), List.foldl_cons, ih hl, List.filter_congr hothers]
      · rw [if_neg hdue, List.filter_cons_of_neg (by simpa using hdue), ih hl]

/-- Every running lease counter has taken a tick (R123). -/
def State.ticked (s : State) : State := { s with locks := mapLocks Lock.tick s.locks }

@[simp] theorem lock_ticked (n : LockId) : s.ticked.lock n = (s.lock n).tick := lock_mapLocks s Lock.tick n

/-- A lawful counter comes to 0 at a tick where it stood at 1 (R124). -/
theorem counter_tick_eq_zero {l : Lock} (h : l.Lawful) : l.tick.counter = some 0 ↔ l.counter = some 1 := by
  obtain ⟨_, _, _, hrange⟩ := h
  cases hcounter : l.counter with
  | none => simp [Lock.tick, hcounter]
  | some k =>
      obtain ⟨hpos, _⟩ := hrange k hcounter
      simp only [Lock.tick, hcounter, Option.map_some, Option.some.injEq]
      omega

/-- A tick at lawful locks: every running counter, then the expiries of the leases that stood at 1, by rising number (R123, R124, R128). -/
theorem leaseTick_eq {s : State} (h : s.LockLaw) : s.leaseTick = s.expiring.foldl State.expireLease s.ticked := by
  have hdue : ∀ n ∈ allLocks, decide ((s.ticked.lock n).counter = some 0) = decide ((s.lock n).counter = some 1) := fun n _ => by
    simp only [lock_ticked, counter_tick_eq_zero (h n)]
  show allLocks.foldl State.expireIfDue s.ticked = _
  rw [foldl_expireIfDue nodup_allLocks, List.filter_congr hdue, allLocks_eq]
  rfl

theorem mem_expiring {s : State} {n : LockId} : n ∈ s.expiring ↔ (s.lock n).counter = some 1 := by
  simp [State.expiring]

theorem nodup_expiring : s.expiring.Nodup := (List.nodup_finRange 32).filter _

/-- A lock after a tick of lawful locks (R123, R124). -/
theorem lock_leaseTick {s : State} (h : s.LockLaw) (n : LockId) :
    s.leaseTick.lock n = if (s.lock n).counter = some 1 then (s.lock n).tick.expired else (s.lock n).tick := by
  simp only [leaseTick_eq h, lock_foldl lock_expireLease (nodup_expiring s), mem_expiring, lock_ticked]

/-- A lawful lock under a lease has an owner (R111). -/
theorem owner_of_counter {l : Lock} (h : l.Lawful) {k : Nat} (hk : l.counter = some k) : ∃ p, l.owner = some p := by
  obtain ⟨hfree, _⟩ := h
  cases howner : l.owner with
  | none =>
      obtain ⟨_, hnone⟩ := hfree howner
      rw [hnone] at hk
      cases hk
  | some p => exact ⟨p, rfl⟩

end

end Sys2Proof.Machine
end

section
/-! PROOFS. The law of the lock table and the bound of a port's holdings along every step: only LOCK lengthens a port's holdings, after it has counted them (R111, R112, R115). -/

namespace Sys2Proof.Machine

/-! ### One lock that becomes another -/

/-- A lock that becomes another stays lawful, and no port holds it that did not. -/
structure Lock.Eases (l l' : Lock) : Prop where
  lawful : l.Lawful → l'.Lawful
  heldBy : ∀ q : Port, l'.heldBy q = true → l.heldBy q = true

theorem heldBy_iff (l : Lock) (q : Port) : l.heldBy q = true ↔ l.owner = some q ∨ l.pending[q] ≠ none := by
  simp [Lock.heldBy, Option.isSome_iff_ne_none]

theorem heldBy_eq_false (l : Lock) (q : Port) : l.heldBy q = false ↔ l.owner ≠ some q ∧ l.pending[q] = none := by
  simp [Lock.heldBy]

namespace Lock.Eases

variable (l : Lock)

theorem refl : l.Eases l := ⟨id, fun _ => id⟩

/-- A loaded lease counter is in range where the setting is (R121). -/
theorem loadedLease_range {ms : BitVec 16} (h : ms.toNat ≤ 60000) : ∀ n ∈ loadedLease ms, 1 ≤ n ∧ n ≤ 60000000 := by
  intro n hn
  unfold loadedLease at hn
  split at hn
  · cases hn
  · rename_i hms
    have hpos : ms.toNat ≠ 0 := fun h0 => hms (BitVec.eq_of_toNat_eq h0)
    cases hn
    omega

/-- A grant to a pending port (R120, R121). -/
theorem grantedTo {q : Port} (h : l.pending[q] ≠ none) : l.Eases (l.grantedTo q) where
  lawful := fun ⟨_, _, hlease, _⟩ => ⟨nofun, fun r hr => by
    obtain rfl : q = r := by simpa [Lock.grantedTo] using hr
    exact (pending_set l q q none).trans (if_pos rfl), hlease, loadedLease_range hlease⟩
  heldBy r hr := by
    simp only [heldBy_iff, Lock.grantedTo, pending_set, Option.some.injEq] at hr ⊢
    rcases hr with rfl | hr
    · exact .inr h
    · split at hr
      · exact absurd rfl hr
      · exact .inr hr

/-- A lock that passes on, from its owner or not (R120). -/
theorem passedOn (p : Port) : l.Eases (l.passedOn p) := by
  unfold Lock.passedOn
  split
  · rename_i q hnext
    obtain ⟨hwaits, _⟩ := find?_ringAfter_eq_some.1 hnext
    exact grantedTo l (Option.isSome_iff_ne_none.1 hwaits)
  · rename_i hnone
    have hnone := find?_pending_eq_none.1 hnone
    exact ⟨fun ⟨_, _, hlease, _⟩ => ⟨fun _ => ⟨hnone, rfl⟩, nofun, hlease, nofun⟩, fun q hq => by simp [Lock.heldBy, hnone q] at hq⟩

/-- A port leaves the pending set (R117, R131). -/
theorem withdrawn (p : Port) : l.Eases { l with pending := l.pending.set p none } where
  lawful := fun ⟨hfree, howner, hlease, hcounter⟩ => by
    have hnone : ∀ q : Port, l.pending[q] = none → (l.pending.set p none)[q] = none := fun q hq => by
      rw [pending_set, hq, ite_self]
    exact ⟨fun h => ⟨fun q => hnone q ((hfree h).1 q), (hfree h).2⟩, fun q hq => hnone q (howner q hq), hlease, hcounter⟩
  heldBy q hq := by
    simp only [heldBy_iff, pending_set] at hq ⊢
    refine hq.imp id fun hq => ?_
    split at hq
    · exact absurd rfl hq
    · exact hq

theorem left (p : Port) : l.Eases (l.left p) := by
  unfold Lock.left
  split
  · exact passedOn l p
  · exact withdrawn l p

/-- A new setting in range (R119). -/
theorem set {lease : BitVec 16} (h : lease.toNat ≤ 60000) : l.Eases { l with lease } :=
  ⟨fun ⟨hfree, howner, _, hcounter⟩ => ⟨hfree, howner, h, hcounter⟩, fun _ => id⟩

theorem trans {l l' l'' : Lock} (h : l.Eases l') (h' : l'.Eases l'') : l.Eases l'' :=
  ⟨fun hl => h'.lawful (h.lawful hl), fun q hq => h.heldBy q (h'.heldBy q hq)⟩

end Lock.Eases

/-- A tick at a lawful lock whose counter does not come to 0 (R123). -/
theorem Lock.Lawful.tick {l : Lock} (h : l.Lawful) (hlast : l.counter ≠ some 1) : l.tick.Lawful := by
  obtain ⟨hfree, howner, hlease, hcounter⟩ := h
  refine ⟨fun ho => ⟨(hfree ho).1, ?_⟩, howner, hlease, ?_⟩
  · simp [Lock.tick, (hfree ho).2]
  · intro n hn
    simp only [Lock.tick, Option.mem_def, Option.map_eq_some_iff] at hn
    obtain ⟨k, hk, rfl⟩ := hn
    obtain ⟨hpos, hmax⟩ := hcounter k hk
    have hone : k ≠ 1 := fun e => hlast (e ▸ hk)
    omega

/-- A lawful lock after the tick that ends its lease (R124). -/
theorem expired_tick {l : Lock} {p : Port} (h : l.owner = some p) : l.tick.expired = l.passedOn p := by
  have howner : l.tick.owner = some p := h
  simp only [Lock.expired, howner, passedOn_tick]

/-! ### The lock table -/

/-- Both laws of the lock table (R111, R112). -/
structure State.LocksLawful (s : State) : Prop where
  law : s.LockLaw
  holdings : s.HoldingsLaw

section
variable {s t : State}

theorem State.LocksLawful.of_locks (hs : s.LocksLawful) (h : t.locks = s.locks) : t.LocksLawful := by
  have hlock : ∀ n, t.lock n = s.lock n := fun n => by rw [State.lock, State.lock, h]
  refine ⟨fun n => by rw [hlock]; exact hs.law n, fun p => ?_⟩
  simp only [State.holdings, hlock]
  exact hs.holdings p

/-- A change of one port's record, or of all, is none of the locks. -/
theorem State.LocksLawful.modPort (hs : s.LocksLawful) (p : Port) (f : PortRec → PortRec) : (s.modPort p f).LocksLawful := hs.of_locks rfl

theorem State.LocksLawful.mapPorts (hs : s.LocksLawful) (f : Port → PortRec → PortRec) : (s.mapPorts f).LocksLawful := hs.of_locks rfl

theorem holdings_le_of_heldBy {p : Port} (h : ∀ n, (t.lock n).heldBy p = true → (s.lock n).heldBy p = true) : t.holdings p ≤ s.holdings p :=
  (List.monotone_filter_right allLocks fun n => h n).length_le

/-- Every lock eased keeps both laws. -/
theorem locksLawful_of_eases (h : ∀ n, (s.lock n).Lawful → (s.lock n).Eases (t.lock n)) (hs : s.LocksLawful) : t.LocksLawful :=
  ⟨fun n => (h n (hs.law n)).lawful (hs.law n), fun p => (holdings_le_of_heldBy fun n => (h n (hs.law n)).heldBy p).trans (hs.holdings p)⟩

theorem locksLawful_setLock {n : LockId} {l : Lock} (h : (s.lock n).Eases l) (hs : s.LocksLawful) : (s.setLock n l).LocksLawful :=
  locksLawful_of_eases (fun m _ => by
    rw [lock_setLock]
    split
    · subst_vars
      exact h
    · exact .refl _) hs

theorem locksLawful_passLock (n : LockId) (p : Port) (hs : s.LocksLawful) : (s.passLock n p).LocksLawful :=
  locksLawful_of_eases (fun m _ => by
    rw [lock_passLock]
    split
    · exact .passedOn _ p
    · exact .refl _) hs

theorem locksLawful_locksLeave (p : Port) (hs : s.LocksLawful) : (s.locksLeave p).LocksLawful :=
  locksLawful_of_eases (fun m _ => by
    rw [lock_locksLeave]
    exact .left _ p) hs

/-- A tick keeps the laws: a counter that runs on stays in range, and a lease that ends passes its lock on (R123, R124). -/
theorem locksLawful_leaseTick (hs : s.LocksLawful) : s.leaseTick.LocksLawful :=
  locksLawful_of_eases (fun n hn => by
    rw [lock_leaseTick hs.law]
    split
    · obtain ⟨p, howner⟩ := owner_of_counter hn ‹_›
      rw [expired_tick howner]
      exact .passedOn _ p
    · exact ⟨fun h => h.tick ‹_›, fun _ => id⟩) hs

/-- A port's holdings after a change of one lock are at most one more (R112). -/
theorem holdings_setLock_le (n : LockId) (l : Lock) (p : Port) : (s.setLock n l).holdings p ≤ s.holdings p + 1 := by
  have hsub : (allLocks.filter fun m => ((s.setLock n l).lock m).heldBy p) ⊆ n :: allLocks.filter fun m => (s.lock m).heldBy p := by
    intro m hm
    obtain ⟨hmem, hheld⟩ := List.mem_filter.1 hm
    rw [lock_setLock] at hheld
    split at hheld
    · subst_vars
      exact List.mem_cons_self
    · exact List.mem_cons_of_mem _ (List.mem_filter.2 ⟨hmem, hheld⟩)
  exact (List.subperm_of_subset (nodup_allLocks.filter _) hsub).length_le

/-- A lock that port p, below the bound, newly holds (R112, R115). -/
theorem locksLawful_taken {n : LockId} {l : Lock} {p : Port} (hlaw : l.Lawful)
    (hothers : ∀ q, q ≠ p → l.heldBy q = true → (s.lock n).heldBy q = true) (hroom : s.holdings p < Config.holdingsLimit)
    (hs : s.LocksLawful) : (s.setLock n l).LocksLawful := by
  refine ⟨fun m => ?_, fun q => ?_⟩
  · rw [lock_setLock]
    split
    · exact hlaw
    · exact hs.law m
  · by_cases hq : q = p
    · subst hq
      exact (holdings_setLock_le n l q).trans hroom
    · refine (holdings_le_of_heldBy fun m hm => ?_).trans (hs.holdings q)
      rw [lock_setLock] at hm
      split at hm
      · subst_vars
        exact hothers q hq hm
      · exact hm

end

end Sys2Proof.Machine
end

section
/-! PROOFS. What memory operations, walks, frames and administrative requests leave unchanged, and so the laws of the locks along every command of the part (R111, R112). -/

namespace Sys2Proof.Machine

/-! ### All that memory operations and walks do not change -/

/-- All that the progress of memory operations and walks leaves as it was: not the ports, the cache, the walker, the stores, the arbiters, the latches, their counters and the count of free values. -/
def State.butTraffic (s : State) : State := s.butWalks.butTargets

section
variable {s t : State}

theorem butTraffic_of_butWalks (h : t.butWalks = s.butWalks) : t.butTraffic = s.butTraffic := congrArg State.butTargets h
theorem butTraffic_of_butTargets (h : t.butTargets = s.butTargets) : t.butTraffic = s.butTraffic := congrArg State.butWalks h
theorem butTraffic_of_butLatches (h : t.butLatches = s.butLatches) : t.butTraffic = s.butTraffic :=
  butTraffic_of_butWalks (butWalks_of_butLatches h)
theorem butTraffic_of_butArbiters (h : t.butArbiters = s.butArbiters) : t.butTraffic = s.butTraffic :=
  butTraffic_of_butWalks (butWalks_of_butAccess (butAccess_of_butWork (butWork_of_butArbiters h)))
theorem butTraffic_of_butWalker (h : t.butWalker = s.butWalker) : t.butTraffic = s.butTraffic :=
  butTraffic_of_butWalks (butWalks_of_butWalker h)
theorem butTraffic_of_butPorts (h : t.butPorts = s.butPorts) : t.butTraffic = s.butTraffic :=
  butTraffic_of_butLatches (butLatches_of_butPorts h)

theorem completeOp_butTraffic {r : Requester} {res : OpResult} {op : MemOp} (h : s.completeOp r = some (res, op, t)) :
    t.butTraffic = s.butTraffic := by
  obtain ⟨x, _, rfl⟩ := completeOp_eq_some h
  exact butTraffic_of_butTargets (afterOp_keeps s x op)

end

section
variable (s : State)

theorem arbiterRace_butTraffic : s.arbiterRace.butTraffic = s.butTraffic := butTraffic_of_butArbiters (arbiterRace_keeps s)

theorem dataErrorOccurrence_butTraffic (p : Port) (res : OpResult) : (s.dataErrorOccurrence p res).butTraffic = s.butTraffic := by
  cases res with
  | dataError a => exact butTraffic_of_butLatches (occurrence_keeps s _ p _)
  | bytes | entry | written => rfl

theorem engineOpComplete_butTraffic (p : Port) : (s.engineOpComplete p).butTraffic = s.butTraffic := by
  simp only [State.engineOpComplete]
  split
  · rename_i res op t hop
    have hdone := completeOp_butTraffic hop
    have herror := (dataErrorOccurrence_butTraffic t p res).trans hdone
    split
    · exact hdone
    · split
      · exact herror
      · exact (butTraffic_of_butWalks (butWalks_of_butAccess (operationDone_keeps _ p res))).trans
          ((arbiterRace_butTraffic _).trans herror)
  · rfl

theorem leavePoolWait_butTraffic (p : Port) : (s.leavePoolWait p).butTraffic = s.butTraffic := by
  simp only [State.leavePoolWait]
  split
  · split
    · split
      · rfl
      · exact butTraffic_of_butWalks (butWalks_of_butAccess (butAccess_of_butWork (issue_keeps s p)))
    · rfl
  · rfl

theorem leaveReadyWait_butTraffic (i : SlotId) : (s.leaveReadyWait i).butTraffic = s.butTraffic := by
  unfold State.leaveReadyWait
  split
  · exact (butTraffic_of_butArbiters (placeOp_keeps _ _ _)).trans rfl
  · rfl

theorem poolBecomesReady_butTraffic : s.poolBecomesReady.butTraffic = s.butTraffic := by
  simp only [State.poolBecomesReady]
  split
  · split
    · rfl
    · rw [foldl_keeps State.butTraffic _ leaveReadyWait_butTraffic, foldl_keeps State.butTraffic _ leavePoolWait_butTraffic]
      rfl
  · rfl

theorem disturb_butTraffic (a : PhysAddress) : (s.disturb a).butTraffic = s.butTraffic := by
  unfold State.disturb
  split <;> rfl

theorem walkRequested_butTraffic (p : Port) : (s.walkRequested p).butTraffic = s.butTraffic := by
  unfold State.walkRequested
  split
  · exact butTraffic_of_butWalks (walkerTakes_keeps s p)
  · rfl

theorem offeredLooks_butTraffic (p : Port) : (s.offeredLooks p).butTraffic = s.butTraffic := by
  unfold State.offeredLooks
  split
  · split
    · exact butTraffic_of_butWalks (repeatLookup_keeps s p _)
    · rfl
  · rfl

theorem offerAnswered_butTraffic (p : Port) : (s.offerAnswered p).butTraffic = s.butTraffic := by
  unfold State.offerAnswered
  split
  · split
    · split
      · rfl
      · exact butTraffic_of_butWalks (answerOffer_keeps s p _ _ _)
    · rfl
  · rfl

theorem descriptorComplete_butTraffic (i : SlotId) : (s.descriptorComplete i).butTraffic = s.butTraffic := by
  unfold State.descriptorComplete
  split
  · rename_i hop
    have hdone := completeOp_butTraffic hop
    split
    · rfl
    · split
      · exact hdone
      · exact (butTraffic_of_butWalks (descriptorDone_keeps _ i _)).trans ((arbiterRace_butTraffic _).trans hdone)
  · rfl

theorem mapComplete_butTraffic (i : SlotId) : (s.mapComplete i).butTraffic = s.butTraffic := by
  unfold State.mapComplete
  split
  · rename_i hop
    have hdone := completeOp_butTraffic hop
    split
    · split
      · rfl
      · split
        · exact hdone
        · exact (butTraffic_of_butWalks (endWalk_keeps _ i _)).trans ((arbiterRace_butTraffic _).trans hdone)
    · rfl
  · rfl

theorem beginAccess_or_refused_butTraffic (c : Prop) [Decidable c] (p : Port) (kind : Byte) (tag : Tag) (ops : Operands)
    (portions : List Portion) :
    (if c then s.beginAccess p tag ops portions else s.replyRefusal p kind tag .malformed).butTraffic = s.butTraffic := by
  split
  · exact butTraffic_of_butWalks (butWalks_of_butAccess (startPortion_keeps _ p))
  · rfl

/-! ### What frames change: ports and latches -/

theorem discardFrame_keeps (p : Port) : (s.discardFrame p).butLatches = s.butLatches := occurrence_keeps _ .linkDiscard p none

theorem acceptFrame_keeps (p : Port) (r : Request) : (s.acceptFrame p r).butLatches = s.butLatches := by
  unfold State.acceptFrame State.admitRequest
  split
  · rfl
  · split
    · rfl
    · split
      · rfl
      · exact occurrence_keeps _ .overrun p none

theorem arrive_keeps (p : Port) (r : Request) : (s.arrive p r).butLatches = s.butLatches := by
  unfold State.arrive
  split
  · split
    · exact discardFrame_keeps s p
    · exact acceptFrame_keeps s p r
  · rfl

theorem arriveBytes_keeps (p : Port) (bytes : List Byte) : (s.arriveBytes p bytes).butLatches = s.butLatches := by
  unfold State.arriveBytes
  split
  · split
    · exact acceptFrame_keeps s p _
    · exact discardFrame_keeps s p
  · rfl

end

/-! ### The locks alone -/

theorem locks_of_butTraffic {s t : State} (h : t.butTraffic = s.butTraffic) : t.locks = s.locks := (congrArg State.locks h :)

theorem locksLawful_of_butTraffic {s t : State} (h : t.butTraffic = s.butTraffic) (hs : s.LocksLawful) : t.LocksLawful :=
  hs.of_locks (locks_of_butTraffic h)

section
variable {s : State}

theorem locksLawful_of_powerOn (h : s.locks = Vector.replicate 32 Lock.powerOn) : s.LocksLawful := by
  have hlock : ∀ n : LockId, s.lock n = Lock.powerOn := fun n => by
    rw [State.lock, h]
    exact Vector.getElem_replicate _
  have hpending : ∀ q : Port, Lock.powerOn.pending[q] = none := fun q => Vector.getElem_replicate _
  refine ⟨fun n => ?_, fun p => ?_⟩
  · rw [hlock]
    exact ⟨fun _ => ⟨hpending, rfl⟩, nofun, Nat.zero_le _, nofun⟩
  · have hnone : ∀ n, (s.lock n).heldBy p = false := fun n => by
      rw [hlock, heldBy_eq_false]
      exact ⟨nofun, hpending p⟩
    simp [State.holdings, hnone]

/-! ### The requests -/

section
variable (hs : s.LocksLawful) (p : Port) (tag : Tag)
include hs

theorem locksLawful_takeLock (number : Byte) : (s.takeLock p tag number).LocksLawful := by
  simp only [State.takeLock]
  split
  · exact hs.of_locks rfl
  · rename_i n _
    split
    · exact hs.of_locks rfl
    · rename_i hheld
      obtain ⟨howner, _⟩ := (heldBy_eq_false _ _).1 (by simpa using hheld)
      obtain ⟨hfree, hone, hlease, hcounter⟩ := hs.law n
      split
      · exact hs.modPort p _
      · rename_i hroom
        have hroom := Nat.lt_of_not_le hroom
        split
        · rename_i hnone
          refine State.LocksLawful.modPort (locksLawful_taken (p := p) ?_ (fun q hq hheld => ?_) hroom hs) p _
          · exact ⟨nofun, fun q _ => (hfree hnone).1 q, hlease, Lock.Eases.loadedLease_range hlease⟩
          · exact (heldBy_iff _ q).2 (((heldBy_iff _ q).1 hheld).imp (fun e => absurd (Option.some.inj e).symm hq) id)
        · rename_i o howned
          refine State.LocksLawful.modPort (locksLawful_taken (p := p) ?_ (fun q hq hheld => ?_) hroom hs) p _
          · refine ⟨fun hnone => absurd (howned.symm.trans hnone) nofun, fun q hq => ?_, hlease, hcounter⟩
            rw [pending_set, if_neg fun e : p = q => howner (e.symm ▸ hq)]
            exact hone q hq
          · simp only [heldBy_iff, pending_set, if_neg (Ne.symm hq)] at hheld ⊢
            exact hheld

theorem locksLawful_takeUnlock (number : Byte) : (s.takeUnlock p tag number).LocksLawful := by
  unfold State.takeUnlock
  split
  · exact hs.of_locks rfl
  · split
    · exact (locksLawful_passLock _ p hs).modPort p _
    · exact hs.of_locks rfl

theorem locksLawful_takeLockWithdraw (number : Byte) : (s.takeLockWithdraw p tag number).LocksLawful := by
  simp only [State.takeLockWithdraw]
  split
  · exact hs.of_locks rfl
  · split
    · exact (locksLawful_setLock (.withdrawn _ p) hs).modPort p _
    · exact hs.of_locks rfl

theorem locksLawful_takeLockQuery (number : Byte) : (s.takeLockQuery p tag number).LocksLawful := by
  simp only [State.takeLockQuery]
  split <;> exact hs.of_locks rfl

theorem locksLawful_takeSetLock (number : Byte) (lease : BitVec 16) : (s.takeSetLock p tag number lease).LocksLawful := by
  unfold State.takeSetLock
  split
  · exact hs.of_locks rfl
  · split
    · exact hs.of_locks rfl
    · rename_i hrange
      exact (locksLawful_setLock (.set _ (Nat.le_of_not_lt hrange)) hs).modPort p _

end

/-! ### Resets -/

theorem locks_fenceLeaves (s : State) (p : Port) : (s.fenceLeaves p).locks = s.locks := by
  unfold State.fenceLeaves
  split <;> rfl

theorem locksLawful_clearPort (hs : s.LocksLawful) (p : Port) : (s.clearPort p).LocksLawful := by
  refine State.LocksLawful.of_locks (locksLawful_locksLeave p ?_) (locks_fenceLeaves _ p)
  exact hs.of_locks rfl

theorem locks_fenceTest (s : State) : s.fenceTest.locks = s.locks := (congrArg State.locks (fenceTest_keeps s) :)

theorem locks_beginIfAnnounced (s : State) (p : Port) : (s.beginIfAnnounced p).locks = s.locks := by
  unfold State.beginIfAnnounced
  split <;> rfl

theorem locksLawful_resetPort (hs : s.LocksLawful) (p : Port) : (s.resetPort p).LocksLawful :=
  (locksLawful_clearPort hs p).of_locks (locks_beginIfAnnounced _ p)

theorem locksLawful_takePortReset (hs : s.LocksLawful) (p : Port) (tag : Tag) (port : Byte) : (s.takePortReset p tag port).LocksLawful := by
  simp only [State.takePortReset]
  split
  · exact hs.of_locks rfl
  · split
    · exact hs.of_locks rfl
    · split
      · exact hs.of_locks rfl
      · exact locksLawful_resetPort (hs.modPort p _) _
      · exact hs.of_locks rfl

theorem locksLawful_tryEndDeviceReset (hs : s.LocksLawful) : s.tryEndDeviceReset.LocksLawful := by
  unfold State.tryEndDeviceReset
  split
  · split
    · exact locksLawful_of_powerOn rfl
    · exact locksLawful_of_butTraffic ((butTraffic_of_butWalks (restWalker_keeps _)).trans (butTraffic_of_butArbiters (restArbiters_keeps s))) hs
  · exact hs

theorem locksLawful_linkDownReport (hs : s.LocksLawful) (p : Port) : (s.linkDownReport p).LocksLawful := by
  have hlost := hs.modPort p fun r => { r with link := .down, transmitter := none }
  simp only [State.linkDownReport]
  split
  · exact hs
  · generalize (s.modPort p fun r => { r with link := .down, transmitter := none }) = t at hlost ⊢
    split
    · exact hlost
    · split
      · exact (locksLawful_clearPort hlost p).of_locks ((locks_beginIfAnnounced _ p).trans (locks_occurrence _ .linkLost p none))
      · exact hlost.of_locks (locks_occurrence _ .linkLost p none)
      · exact hlost

theorem locks_transmissionDone (s : State) (p : Port) : (s.transmissionDone p).locks = s.locks := by
  simp only [State.transmissionDone]
  split
  · rfl
  · split <;> rfl

/-! ### Administrative requests change no lock -/

section
variable (s) (p : Port) (tag : Tag)

theorem locks_takeSetAnchor (space : Byte) (base : BitVec 32) (length : BitVec 16) (mask : BitVec 8) :
    (s.takeSetAnchor p tag space base length mask).locks = s.locks := by
  unfold State.takeSetAnchor
  split
  · rfl
  · split <;> rfl

theorem locks_takePurge (scope space : Byte) (segment page : BitVec 16) : (s.takePurge p tag scope space segment page).locks = s.locks := by
  unfold State.takePurge
  split <;> rfl

theorem locks_takeSetWindow (window kind : Byte) (base limit target : BitVec 16) :
    (s.takeSetWindow p tag window kind base limit target).locks = s.locks := by
  unfold State.takeSetWindow
  split
  · split <;> rfl
  · rfl

theorem locks_takeSetPool (size : BitVec 16) : (s.takeSetPool p tag size).locks = s.locks := by
  unfold State.takeSetPool
  split
  · rfl
  · split <;> rfl

theorem locks_takeSetPort (port cls c h : Byte) (t : BitVec 16) : (s.takeSetPort p tag port cls c h t).locks = s.locks := by
  unfold State.takeSetPort
  split
  · split
    · rfl
    · split <;> rfl
  · rfl

theorem locks_takeFence (set : BitVec 8) : (s.takeFence p tag set).locks = s.locks := by
  unfold State.takeFence
  split
  · rfl
  · split
    · rfl
    · split <;> rfl

theorem locks_takeUnfence : (s.takeUnfence p tag).locks = s.locks := by
  unfold State.takeUnfence
  split <;> rfl

theorem locks_takeSetTimebase (divide : BitVec 16) : (s.takeSetTimebase p tag divide).locks = s.locks := by
  unfold State.takeSetTimebase
  split <;> rfl

theorem locks_takeCounters (clear : Byte) : (s.takeCounters p tag clear).locks = s.locks := by
  unfold State.takeCounters
  split
  · rfl
  · split <;> rfl

theorem locks_takeAlertClear (cause : Byte) : (s.takeAlertClear p tag cause).locks = s.locks := by
  unfold State.takeAlertClear
  split <;> rfl

theorem locks_takeDeviceReset : (s.takeDeviceReset p tag).locks = s.locks := by
  unfold State.takeDeviceReset
  split <;> rfl

end

/-! ### The taking of a request and the settling of an event -/

theorem locksLawful_carryOut (hs : s.LocksLawful) (p : Port) (tag : Tag) (ops : Operands) : (s.carryOut p tag ops).LocksLawful := by
  cases ops with
  | read | write | probe | physRead | physWrite => exact locksLawful_of_butTraffic (beginAccess_or_refused_butTraffic s _ p _ tag _ _) hs
  | lock => exact locksLawful_takeLock hs p tag _
  | unlock => exact locksLawful_takeUnlock hs p tag _
  | lockWithdraw => exact locksLawful_takeLockWithdraw hs p tag _
  | lockQuery => exact locksLawful_takeLockQuery hs p tag _
  | setLock => exact locksLawful_takeSetLock hs p tag _ _
  | setAnchor => exact hs.of_locks (locks_takeSetAnchor s p tag _ _ _ _)
  | purge => exact hs.of_locks (locks_takePurge s p tag _ _ _ _)
  | setWindow => exact hs.of_locks (locks_takeSetWindow s p tag _ _ _ _ _)
  | setPool => exact hs.of_locks (locks_takeSetPool s p tag _)
  | setPort => exact hs.of_locks (locks_takeSetPort s p tag _ _ _ _ _)
  | fence => exact hs.of_locks (locks_takeFence s p tag _)
  | unfence => exact hs.of_locks (locks_takeUnfence s p tag)
  | portReset => exact locksLawful_takePortReset hs p tag _
  | setTimebase => exact hs.of_locks (locks_takeSetTimebase s p tag _)
  | counters => exact hs.of_locks (locks_takeCounters s p tag _)
  | alertClear => exact hs.of_locks (locks_takeAlertClear s p tag _)
  | deviceReset => exact hs.of_locks (locks_takeDeviceReset s p tag)
  | malformed => exact hs.of_locks rfl

theorem locksLawful_takeRequest (hs : s.LocksLawful) (p : Port) : (s.takeRequest p).LocksLawful := by
  unfold State.takeRequest State.examine
  split
  · exact hs
  · split
    · exact hs.of_locks rfl
    · split
      · exact hs.of_locks rfl
      · exact locksLawful_carryOut (hs.modPort p _) p _ _

theorem locksLawful_housekeep (hs : s.LocksLawful) : s.housekeep.LocksLawful := by
  have hresets : s.tryEndDeviceReset.finishResets.LocksLawful :=
    locksLawful_of_butTraffic (butTraffic_of_butPorts (finishResets_keeps _)) (locksLawful_tryEndDeviceReset hs)
  simp only [State.housekeep]
  split
  · exact hresets
  · exact (locksLawful_of_butTraffic (butTraffic_of_butWalker (offerSlots_keeps _)) hresets).of_locks (locks_fenceTest _)

theorem locksLawful_settle (hs : s.LocksLawful) (n : Nat) : (State.settle n s).LocksLawful :=
  settle_keeps (P := State.LocksLawful) (fun _ => locksLawful_housekeep)
    (fun u => locksLawful_of_butTraffic (butTraffic_of_butPorts (reportAll_keeps u)))
    (fun u => locksLawful_of_butTraffic (butTraffic_of_butArbiters (arbitersTake_keeps u))) (fun _ p h => locksLawful_takeRequest h p)
    (fun _ _ h => h.of_locks rfl) n s hs

/-! ### Time -/

theorem locksLawful_tickInOrder (hs : s.LocksLawful) (order : Nat) : (s.tickInOrder order).LocksLawful := by
  unfold State.tickInOrder State.timersTickOf State.reportOf
  exact ((locksLawful_leaseTick ((hs.mapPorts _).mapPorts _)).mapPorts _).mapPorts _

theorem locksLawful_tick (hs : s.LocksLawful) : s.tick.LocksLawful := by
  have hcount : ∀ n, ({ s with prescaler := 0, freeCount := n } : State).LocksLawful := fun n => hs.of_locks rfl
  simp only [State.tick, State.deliverTick]
  split
  · exact hs.of_locks rfl
  · split
    · exact locksLawful_tickInOrder (hcount (s.freeCount + 1)) _
    · exact (locksLawful_leaseTick (hcount s.freeCount)).mapPorts _

theorem locksLawful_tick_if (c : Prop) [Decidable c] (hs : s.LocksLawful) : (if c then s.tick else s).LocksLawful := by
  split
  · exact locksLawful_tick hs
  · exact hs

theorem locksLawful_clockPeriod (hs : s.LocksLawful) : s.clockPeriod.LocksLawful := by
  unfold State.clockPeriod
  split
  · exact locksLawful_tick hs
  · exact hs.of_locks rfl

end

/-! ### Every step -/

/-- An event whose effect keeps the laws keeps them whole. -/
theorem event_locksLawful {s t : State} {effect : State → State} (h : s.event effect = .next t) (hs : s.LocksLawful)
    (he : (effect s).LocksLawful) : t.LocksLawful := event_keeps h hs he fun u hu => locksLawful_settle hu u.queuedRequests

/-- An event whose effect is the progress of memory operations and walks. -/
theorem event_locksLawful_of_butTraffic {s t : State} {effect : State → State} (h : s.event effect = .next t) (hs : s.LocksLawful)
    (he : (effect s).butTraffic = s.butTraffic) : t.LocksLawful := event_locksLawful h hs (locksLawful_of_butTraffic he hs)

theorem requestEvent_locksLawful {s t : State} {i : Instr} (h : s.requestEvent i = .next t) (hs : s.LocksLawful) : t.LocksLawful := by
  unfold State.requestEvent at h
  split at h
  · exact event_locksLawful_of_butTraffic h hs (butTraffic_of_butLatches (arrive_keeps s _ _))
  · cases h
    exact hs

/-- Every command keeps the laws of the locks. -/
theorem exec_locksLawful {s t : State} {c : Instr} (h : exec c s = .next t) (hs : s.LocksLawful) : t.LocksLawful := by
  cases c with
  | powerOnResetAssert =>
      cases h
      exact hs.of_locks rfl
  | powerOnResetRelease =>
      cases h
      split
      · exact locksLawful_of_powerOn rfl
      · exact hs
  | startUpEnd =>
      cases h
      split
      · refine hs.of_locks ?_
        exact foldl_keeps State.locks _ (fun u p => by unfold State.startUpReport; split <;> rfl) allPorts _
      · exact hs
  | linkUp p =>
      simp only [exec, execLinkUp] at h
      split at h
      · cases h
        exact hs.of_locks rfl
      · exact event_locksLawful h hs (hs.of_locks rfl)
  | linkDown p =>
      simp only [exec, execLinkDown] at h
      split at h
      · cases h
        exact hs.of_locks rfl
      · exact event_locksLawful h hs (locksLawful_linkDownReport hs p)
  | requestAdmission p frame =>
      exact event_locksLawful_of_butTraffic (effect := fun u => u.arriveBytes p frame) h hs
        (butTraffic_of_butLatches (arriveBytes_keeps s p frame))
  | batchAck | malformedRequest | read | write | probe | physRead | physWrite | lock | unlock | lockWithdraw | lockQuery | setLock
  | setAnchor | purge | setWindow | setPool | setPort | fence | unfence | portReset | setTimebase | counters | alertClear
  | deviceReset => exact requestEvent_locksLawful ((exec_eq_requestEvent rfl s).symm.trans h) hs
  | walkRequest p => exact event_locksLawful_of_butTraffic (effect := fun u => u.walkRequested p) h hs (walkRequested_butTraffic s p)
  | offeredLookup p => exact event_locksLawful_of_butTraffic (effect := fun u => u.offeredLooks p) h hs (offeredLooks_butTraffic s p)
  | offerAnswer p => exact event_locksLawful_of_butTraffic (effect := fun u => u.offerAnswered p) h hs (offerAnswered_butTraffic s p)
  | descriptorReadComplete i =>
      exact event_locksLawful_of_butTraffic (effect := fun u => u.descriptorComplete i) h hs (descriptorComplete_butTraffic s i)
  | mapUpdateComplete i => exact event_locksLawful_of_butTraffic (effect := fun u => u.mapComplete i) h hs (mapComplete_butTraffic s i)
  | memoryOperationComplete p =>
      exact event_locksLawful_of_butTraffic (effect := fun u => u.engineOpComplete p) h hs (engineOpComplete_butTraffic s p)
  | poolReady => exact event_locksLawful_of_butTraffic (effect := fun u => u.poolBecomesReady) h hs (poolBecomesReady_butTraffic s)
  | byteDisturbance a => exact event_locksLawful_of_butTraffic (effect := fun u => u.disturb a) h hs (disturb_butTraffic s a)
  | timebaseTick => exact event_locksLawful (effect := fun u => if u.tickDue then u.tick else u) h hs (locksLawful_tick_if _ hs)
  | leaseExpiry n =>
      exact event_locksLawful (effect := fun u => if u.tickTaken && (u.lock n).expiresNext then u.tick else u) h hs
        (locksLawful_tick_if _ hs)
  | coalescingTimerExpiry p =>
      exact event_locksLawful (effect := fun u => if u.tickTaken && (u.port p).timer.expiresNext then u.tick else u) h hs
        (locksLawful_tick_if _ hs)
  | transmissionComplete p =>
      exact event_locksLawful (effect := fun u => u.transmissionDone p) h hs (hs.of_locks (locks_transmissionDone s p))
  | referenceClockPeriod => exact event_locksLawful (effect := fun u => u.clockPeriod) h hs (locksLawful_clockPeriod hs)

/-- Settles O57: the front command keeps both laws, and so does idling. -/
theorem lockLawsAreKept : Obligations.LockLawsAreKept := by
  intro s t hlocks hholdings h
  unfold step at h
  split at h
  · cases h
    exact ⟨hlocks, hholdings⟩
  · obtain ⟨hlaw, hbound⟩ := exec_locksLawful h ⟨hlocks, hholdings⟩
    exact ⟨hlaw, hbound⟩

end Sys2Proof.Machine
end

section
/-! PROOFS. The five lock requests at a port whose engine is ready to take them (R88, R114 to R121). -/

namespace Sys2Proof.Machine

/-! ### Requests and numbers -/

theorem byteIndex_lock (n : LockId) : byteIndex (.ofNat 8 n.val) 32 = some n := by
  have hn : (BitVec.ofNat 8 n.val).toNat = n.val := by
    rw [BitVec.toNat_ofNat]
    omega
  simp [byteIndex, hn]

/-- A number above 31 names no lock (R114). -/
theorem byteIndex_eq_none {x : Byte} (h : 31 < x.toNat) : byteIndex x 32 = none := dif_neg (by omega)

theorem readOperands_setLock (tag : Tag) (x : Byte) (lease : BitVec 16) :
    readOperands ⟨0x28, tag, [x] ++ beBytes 2 lease.toNat⟩ = some (.setLock x lease) := by
  show some (Operands.setLock x (.ofNat 16 (beNat (beBytes 2 lease.toNat)))) = _
  rw [ofNat_beNat_beBytes_two]

/-! ### A ready port and the lock table -/

section
variable {s : State} {p : Port} {n : LockId}

/-- What a port is ready for does not depend on the locks. -/
theorem ready_setLock (h : s.Ready p) (n : LockId) (l : Lock) : (s.setLock n l).Ready p := h

theorem setLock_modPort (q : Port) (f : PortRec → PortRec) (l : Lock) : (s.modPort q f).setLock n l = (s.setLock n l).modPort q f := rfl

/-- The DONE reply to a lock request that has changed one lock, and what follows it. -/
theorem setLock_settled (h : s.Ready p) (r : Request) (l : Lock) (tag : Tag) (st : Status) :
    (((s.modPort p fun x => x.engaged r).setLock n l).replyStatus p tag st).housekeep.dispatchWork = (s.setLock n l).answered p tag st :=
  replyDone_settled (ready_setLock h n l) r tag st none

/-- The DONE reply to a lock request that has changed nothing, and what follows it. -/
theorem replyStatus_settled (h : s.Ready p) (r : Request) (tag : Tag) (st : Status) :
    ((s.modPort p fun x => x.engaged r).replyStatus p tag st).housekeep.dispatchWork = s.answered p tag st :=
  replyDone_settled h r tag st none

/-! ### LOCK -/

/-- LOCK at a lock that its port holds (R115). -/
theorem takeLock_of_held (h : (s.lock n).heldBy p = true) (tag : Tag) : s.takeLock p tag (.ofNat 8 n.val) = s.replyStatus p tag .alreadyHeld := by
  simp only [State.takeLock, byteIndex_lock, h, if_true]

/-- LOCK at the bound of holdings (R112, R115). -/
theorem takeLock_of_limit (h : (s.lock n).heldBy p = false) (hlimit : 4 ≤ s.holdings p) (tag : Tag) :
    s.takeLock p tag (.ofNat 8 n.val) = s.replyStatus p tag .limit := by
  simp only [State.takeLock, byteIndex_lock, h, Bool.false_eq_true, if_false]
  exact if_pos hlimit

/-- LOCK at a free lock (R115, R121). -/
theorem takeLock_of_free (h : (s.lock n).heldBy p = false) (hroom : s.holdings p < 4) (hfree : (s.lock n).owner = none) (tag : Tag) :
    s.takeLock p tag (.ofNat 8 n.val) =
      (s.setLock n { s.lock n with owner := some p, counter := loadedLease (s.lock n).lease }).replyStatus p tag .ok := by
  simp only [State.takeLock, byteIndex_lock, h, Bool.false_eq_true, if_false, hfree]
  exact if_neg (Nat.not_le.2 hroom)

/-- LOCK at a lock that another port owns (R115). -/
theorem takeLock_of_owned {q : Port} (h : (s.lock n).heldBy p = false) (hroom : s.holdings p < 4) (howner : (s.lock n).owner = some q)
    (tag : Tag) :
    s.takeLock p tag (.ofNat 8 n.val) =
      (s.setLock n { s.lock n with pending := (s.lock n).pending.set p (some tag) }).replyStatus p tag .queued := by
  simp only [State.takeLock, byteIndex_lock, h, Bool.false_eq_true, if_false, howner]
  exact if_neg (Nat.not_le.2 hroom)

theorem takeLock_of_malformed {x : Byte} (h : 31 < x.toNat) (tag : Tag) : s.takeLock p tag x = s.replyStatus p tag .malformed := by
  simp only [State.takeLock, byteIndex_eq_none h]

end

/-- The LOCK of a ready port is taken at once. -/
theorem exec_lock {s : State} {p : Port} (h : s.Ready p) (tag : Tag) (x : Byte) :
    exec (.lock p tag x) s = .next (((s.modPort p fun y => y.engaged ⟨0x20, tag, [x]⟩).takeLock p tag x).housekeep.dispatchWork) :=
  exec_request (c := .lock p tag x) (ops := .lock x) h rfl (by decide : 1 ≤ Config.payloadLimit) rfl (.inl rfl)

/-- Settles O15: the four outcomes by the tests that come before them, and the number that names no lock. -/
theorem lockDecision : Obligations.LockDecision := by
  intro s p tag n hready
  refine ⟨fun hheld => ?_, fun howner hpending hlimit => ?_, fun hfree hpending hroom => ?_, fun q howner hq hpending hroom => ?_,
    fun x hx => ?_⟩ <;> rw [exec_lock hready]
  · rw [takeLock_of_held (s := s.modPort p _) ((heldBy_iff _ p).2 hheld), replyStatus_settled hready]
  · rw [takeLock_of_limit (s := s.modPort p _) ((heldBy_eq_false _ p).2 ⟨howner, hpending⟩) hlimit, replyStatus_settled hready]
  · have hheld := (heldBy_eq_false (s.lock n) p).2 ⟨by simp [hfree], hpending⟩
    rw [takeLock_of_free (s := s.modPort p _) hheld hroom hfree, setLock_settled hready]
    rfl
  · have hheld := (heldBy_eq_false (s.lock n) p).2 ⟨by simpa [howner] using hq, hpending⟩
    rw [takeLock_of_owned (s := s.modPort p _) hheld hroom howner, setLock_settled hready]
    rfl
  · rw [takeLock_of_malformed hx, replyStatus_settled hready]

/-! ### UNLOCK -/

section
variable {s : State} {p : Port} {n : LockId}

/-- Two states with the same ports that agree in everything else are equal. -/
theorem eq_of_butPorts {s t : State} (h : t.butPorts = s.butPorts) (hports : ∀ q : Port, t.port q = s.port q) : t = s := by
  have hvec : t.ports = s.ports := ports_ext hports
  have hback : { t.butPorts with ports := t.ports } = { s.butPorts with ports := s.ports } := by rw [h, hvec]
  exact hback

theorem modPort_congr (s : State) (p : Port) {f g : PortRec → PortRec} (h : f (s.port p) = g (s.port p)) : s.modPort p f = s.modPort p g := by
  rw [State.modPort, State.modPort, h]

/-- Changes of two ports' records may change places. -/
theorem modPort_comm {p q : Port} (h : p ≠ q) (s : State) (f g : PortRec → PortRec) :
    (s.modPort p f).modPort q g = (s.modPort q g).modPort p f := by
  refine eq_of_butPorts rfl fun r => ?_
  simp only [port_modPort]
  by_cases hp : p = r
  · subst hp
    simp [Ne.symm h]
  · simp [hp]

/-- After a DONE reply at a ready port and a record added to another port, both transmitters choose, and nothing else follows (R138, R148). -/
theorem granted_settled (h : s.Ready p) {q : Port} (hq : q ≠ p) (x : Record) (r : Request) (tag : Tag) (st : Status) :
    (((s.modPort p fun y => y.engaged r).addRecord q x).replyStatus p tag st).housekeep.dispatchWork =
      (s.modPort q fun y => (y.addRecord x).report).answered p tag st := by
  obtain ⟨⟨_, hdrain, hrest, hqueue⟩, hactive, _⟩ := h
  have hreply : ((s.modPort p fun y => y.engaged r).addRecord q x).replyStatus p tag st =
      (s.addRecord q x).modPort p fun y => y.replied tag st := by
    have hcomm : (s.modPort p fun y => y.engaged r).addRecord q x = (s.addRecord q x).modPort p fun y => y.engaged r :=
      modPort_comm (Ne.symm hq) s _ _
    have hp : (s.addRecord q x).port p = s.port p := port_modPort_of_ne s hq _
    rw [hcomm, State.replyStatus, modPort_modPort]
    refine modPort_congr _ p ?_
    rw [hp]
    exact replied_engaged (hqueue p) r tag st none
  have hport : ∀ y, ((s.addRecord q x).modPort p fun y => y.replied tag st).port y =
      if p = y then (s.port y).replied tag st else if q = y then (s.port y).addRecord x else s.port y := fun y => by
    rw [port_modPort, port_addRecord]
    split
    · subst_vars
      rw [if_neg hq]
    · rfl
  have hstirs : StirsPorts s ((s.addRecord q x).modPort p fun y => y.replied tag st) := by
    refine ⟨hrest, hdrain, rfl, fun y => ?_, fun y => ?_⟩ <;> rw [hport]
    · split
      · exact state_replied _ tag st none
      · split <;> rfl
    · split
      · subst_vars
        rw [fenceIdle_replied hactive]
        exact nofun
      · split
        · exact ((PortRec.Fuller.refl _).addRecord x).fenceIdle
        · exact id
  rw [hreply, hstirs.dispatchWork]
  refine eq_of_butPorts (reportAll_keeps _) fun y => ?_
  rw [port_reportAll hstirs.draining, hport, State.answered, port_modPort, port_modPort]
  split
  · subst_vars
    rw [if_neg hq]
  · split
    · rfl
    · exact PortRec.report_of_not_canTransmit (canTransmit_of_atRest hrest hdrain y)

/-- A lock passes on to the next pending port, which gets a GRANT with the tag it waited under (R120, R121). -/
theorem passLock_of_nextAfter {k : Port} {held : Tag} (h : (s.lock n).nextAfter p k held) :
    s.passLock n p = (s.setLock n ((s.lock n).grantedTo (p + k))).addRecord (p + k) (.grant n held) := by
  have hnext := find?_pending_of_nextAfter h
  obtain ⟨_, hheld, _⟩ := h
  simp only [State.passLock, hnext, hheld]
  rfl

/-- A lock for which no port waits becomes free (R120). -/
theorem passLock_of_none (h : ∀ q : Port, (s.lock n).pending[q] = none) :
    s.passLock n p = s.setLock n { s.lock n with owner := none, counter := none } := by
  simp only [State.passLock, find?_pending_eq_none.2 h]

theorem takeUnlock_of_owner (h : (s.lock n).owner = some p) (tag : Tag) :
    s.takeUnlock p tag (.ofNat 8 n.val) = (s.passLock n p).replyStatus p tag .ok := by
  simp only [State.takeUnlock, byteIndex_lock, h, if_true]

theorem takeUnlock_of_other (h : (s.lock n).owner ≠ some p) (tag : Tag) :
    s.takeUnlock p tag (.ofNat 8 n.val) = s.replyStatus p tag .notOwner := by
  simp only [State.takeUnlock, byteIndex_lock, h, if_false]

theorem takeUnlock_of_malformed {x : Byte} (h : 31 < x.toNat) (tag : Tag) : s.takeUnlock p tag x = s.replyStatus p tag .malformed := by
  simp only [State.takeUnlock, byteIndex_eq_none h]

end

/-- The UNLOCK of a ready port is taken at once. -/
theorem exec_unlock {s : State} {p : Port} (h : s.Ready p) (tag : Tag) (x : Byte) :
    exec (.unlock p tag x) s = .next (((s.modPort p fun y => y.engaged ⟨0x21, tag, [x]⟩).takeUnlock p tag x).housekeep.dispatchWork) :=
  exec_request (c := .unlock p tag x) (ops := .unlock x) h rfl (by decide : 1 ≤ Config.payloadLimit) rfl (.inl rfl)

/-- Settles O16: NOT_OWNER, the lock that becomes free, the grant to the next pending port, and the number that names no lock. -/
theorem unlockPassesTheLockOn : Obligations.UnlockPassesTheLockOn := by
  intro s p tag n hready
  refine ⟨fun howner => ?_, fun howner hnone => ?_, fun k held howner hnext => ?_, fun x hx => ?_⟩ <;> rw [exec_unlock hready]
  · rw [takeUnlock_of_other (s := s.modPort p _) howner, replyStatus_settled hready]
  · rw [takeUnlock_of_owner (s := s.modPort p _) howner, passLock_of_none (s := s.modPort p _) hnone, setLock_settled hready]
    rfl
  · have hother : p + k ≠ p := by
      obtain ⟨hk, _⟩ := hnext
      simpa using hk
    rw [takeUnlock_of_owner (s := s.modPort p _) howner, passLock_of_nextAfter (s := s.modPort p _) hnext, setLock_modPort,
      granted_settled (ready_setLock hready n _) hother]
    rfl
  · rw [takeUnlock_of_malformed hx, replyStatus_settled hready]

/-! ### LOCK_WITHDRAW -/

section
variable {s : State} {p : Port} {n : LockId}

theorem takeLockWithdraw_of_pending (h : (s.lock n).pending[p] ≠ none) (tag : Tag) :
    s.takeLockWithdraw p tag (.ofNat 8 n.val) =
      (s.setLock n { s.lock n with pending := (s.lock n).pending.set p none }).replyStatus p tag .ok := by
  simp only [State.takeLockWithdraw, byteIndex_lock, Option.isSome_iff_ne_none.2 h, if_true]

theorem takeLockWithdraw_of_other (h : (s.lock n).pending[p] = none) (tag : Tag) :
    s.takeLockWithdraw p tag (.ofNat 8 n.val) = s.replyStatus p tag .notPending := by
  simp only [State.takeLockWithdraw, byteIndex_lock, h, Option.isSome_none, Bool.false_eq_true, if_false]

theorem takeLockWithdraw_of_malformed {x : Byte} (h : 31 < x.toNat) (tag : Tag) :
    s.takeLockWithdraw p tag x = s.replyStatus p tag .malformed := by
  simp only [State.takeLockWithdraw, byteIndex_eq_none h]

end

/-- The LOCK_WITHDRAW of a ready port is taken at once. -/
theorem exec_lockWithdraw {s : State} {p : Port} (h : s.Ready p) (tag : Tag) (x : Byte) :
    exec (.lockWithdraw p tag x) s =
      .next (((s.modPort p fun y => y.engaged ⟨0x22, tag, [x]⟩).takeLockWithdraw p tag x).housekeep.dispatchWork) :=
  exec_request (c := .lockWithdraw p tag x) (ops := .lockWithdraw x) h rfl (by decide : 1 ≤ Config.payloadLimit) rfl (.inl rfl)

/-- Settles O17: a pending port, any other, and the number that names no lock. -/
theorem lockWithdrawLeavesTheSet : Obligations.LockWithdrawLeavesTheSet := by
  intro s p tag n hready
  refine ⟨fun hpending => ?_, fun hnone => ?_, fun x hx => ?_⟩ <;> rw [exec_lockWithdraw hready]
  · rw [takeLockWithdraw_of_pending (s := s.modPort p _) hpending, setLock_settled hready]
    rfl
  · rw [takeLockWithdraw_of_other (s := s.modPort p _) hnone, replyStatus_settled hready]
  · rw [takeLockWithdraw_of_malformed hx, replyStatus_settled hready]

/-! ### LOCK_QUERY -/

/-- A bit of the pending set as LOCK_QUERY reports it: whether the port of that number waits (R118). -/
theorem getLsbD_pendingSet (l : Lock) (q : Port) : l.pendingSet.getLsbD q.val = l.pending[q].isSome := by
  have hfold : ∀ (ports : List Port) (acc : BitVec 8),
      (ports.foldl (fun acc r => if l.pending[r].isSome then acc ||| (1#8 <<< r.val) else acc) acc).getLsbD q.val =
        (acc.getLsbD q.val || (decide (q ∈ ports) && l.pending[q].isSome)) := fun ports => by
    have hbit : ∀ r : Port, (1#8 <<< r.val).getLsbD q.val = decide (q = r) := by
      have hall : ∀ q r : Port, (1#8 <<< r.val).getLsbD q.val = decide (q = r) := by decide
      exact hall q
    induction ports with
    | nil => simp
    | cons r ports ih =>
        intro acc
        rw [List.foldl_cons, ih]
        by_cases hr : q = r
        · subst hr
          cases l.pending[q].isSome <;> simp
        · have hne : decide (q = r) = false := by simpa using hr
          split
          · rw [BitVec.getLsbD_or, hbit, hne, Bool.or_false]
            simp [hr]
          · simp [hr]
  exact (hfold allPorts 0#8).trans (by simp [mem_allPorts])

theorem pendingSet_eq {l : Lock} {waiting : BitVec 8} (h : ∀ q : Port, waiting.getLsbD q.val = l.pending[q].isSome) :
    l.pendingSet = waiting :=
  BitVec.eq_of_getLsbD_eq fun i hi => (getLsbD_pendingSet l ⟨i, hi⟩).trans (h ⟨i, hi⟩).symm

/-- The LOCK_QUERY of a ready port is taken at once. -/
theorem exec_lockQuery {s : State} {p : Port} (h : s.Ready p) (tag : Tag) (x : Byte) :
    exec (.lockQuery p tag x) s =
      .next (((s.modPort p fun y => y.engaged ⟨0x23, tag, [x]⟩).takeLockQuery p tag x).housekeep.dispatchWork) :=
  exec_request (c := .lockQuery p tag x) (ops := .lockQuery x) h rfl (by decide : 1 ≤ Config.payloadLimit) rfl (.inl rfl)

/-- Settles O18: the lock block of the DATA frame, and the frame without one. -/
theorem lockQueryReports : Obligations.LockQueryReports := by
  intro s p tag hready
  refine ⟨fun n waiting remaining hwaiting hremaining => ?_, fun x hx => ?_⟩ <;> rw [exec_lockQuery hready]
  · have hleft : (s.lock n).remaining = remaining := by
      unfold Lock.remaining
      cases hcounter : (s.lock n).counter <;> simp only [hcounter] at hremaining ⊢ <;> exact hremaining.symm
    simp only [State.takeLockQuery, byteIndex_lock, lock_modPort, pendingSet_eq hwaiting, hleft]
    rw [replyData_settled hready]
  · simp only [State.takeLockQuery, byteIndex_eq_none hx]
    rw [replyData_settled hready]

/-! ### SET_LOCK -/

section
variable {s : State} {p : Port} {n : LockId}

theorem takeSetLock_of_range {lease : BitVec 16} (h : lease.toNat ≤ 60000) (tag : Tag) :
    s.takeSetLock p tag (.ofNat 8 n.val) lease = (s.setLock n { s.lock n with lease }).replyStatus p tag .ok := by
  simp only [State.takeSetLock, byteIndex_lock]
  exact if_neg (Nat.not_lt.2 h)

theorem takeSetLock_of_long {lease : BitVec 16} (h : 60000 < lease.toNat) (tag : Tag) :
    s.takeSetLock p tag (.ofNat 8 n.val) lease = s.replyStatus p tag .malformed := by
  simp only [State.takeSetLock, byteIndex_lock]
  exact if_pos h

theorem takeSetLock_of_malformed {x : Byte} (h : 31 < x.toNat) (tag : Tag) (lease : BitVec 16) :
    s.takeSetLock p tag x lease = s.replyStatus p tag .malformed := by
  simp only [State.takeSetLock, byteIndex_eq_none h]

end

/-- The SET_LOCK of a ready ADMINISTRATIVE port is taken at once. -/
theorem exec_setLock {s : State} {p : Port} (h : s.Ready p) (hcls : (s.port p).cls = .administrative) (tag : Tag) (x : Byte)
    (lease : BitVec 16) :
    exec (.setLock p tag x lease) s =
      .next (((s.modPort p fun y => y.engaged ⟨0x28, tag, [x] ++ beBytes 2 lease.toNat⟩).takeSetLock p tag x lease).housekeep.dispatchWork) := by
  have hexec := exec_request (c := .setLock p tag x lease) h rfl (by simp [beBytes, Config.payloadLimit])
    (readOperands_setLock tag x lease) (.inr hcls)
  rw [hexec, State.carryOut]

/-- Settles O19: the refusal of a USER port, the two tests of the operands, and the new setting. -/
theorem setLockGivesTheSetting : Obligations.SetLockGivesTheSetting := by
  intro s p tag n lease hready
  refine ⟨fun hcls => ?_, fun hcls hlong => ?_, fun hcls hrange => ?_, fun x hcls hx => ?_⟩
  · exact userPortsAreNotPermitted s p (.setLock p tag (.ofNat 8 n.val) lease) _ _ hready hcls rfl (by simp [beBytes])
      (readOperands_setLock tag _ lease) rfl
  · rw [exec_setLock hready hcls, takeSetLock_of_long hlong, replyStatus_settled hready]
  · rw [exec_setLock hready hcls, takeSetLock_of_range (s := s.modPort p _) hrange, setLock_settled hready]
    rfl
  · rw [exec_setLock hready hcls, takeSetLock_of_malformed hx, replyStatus_settled hready]

end Sys2Proof.Machine
end

section
/-! PROOFS. The prescaler, and a tick at which no lease expires (R123, R132, R142, R174, R186). -/

namespace Sys2Proof.Machine

/-! ### The events of the clock -/

/-- An event whose effect is a state at rest is its effect (R88, R138, R148). -/
theorem event_of_atRest {s t : State} {effect : State → State} (hpower : s.power = .operating) (he : effect s = t) (ht : t.AtRest) :
    s.event effect = .next t := by
  rw [event_of_operating hpower he, AtRest.settle ht]

section
variable {s : State}

theorem tickDue_of_le (h : s.divide.toNat ≤ s.prescaler.toNat) : s.tickDue = true := decide_eq_true h

theorem tickDue_of_lt (h : s.prescaler.toNat < s.divide.toNat) : s.tickDue = false := decide_eq_false (Nat.not_le.2 h)

/-- Nothing that follows an event asks for the prescaler. -/
theorem atRest_prescaler (h : s.AtRest) (k : BitVec 10) : ({ s with prescaler := k } : State).AtRest := h

/-- A tick of a device reset reaches no consumer (R186). -/
theorem tick_of_draining (h : s.draining = true) : s.tick = { s with prescaler := 0 } := if_pos h

theorem tick_of_operating (h : s.draining = false) : s.tick = ({ s with prescaler := 0 } : State).deliverTick :=
  if_neg (ne_true_of_eq_false h)

/-- Where the next period ends with no tick, it counts one, and there is no tick event (R174). -/
theorem exec_of_not_due (hpower : s.power = .operating) (hrest : s.AtRest) (h : s.prescaler.toNat < s.divide.toNat) :
    exec .referenceClockPeriod s = .next { s with prescaler := s.prescaler + 1 } ∧ exec .timebaseTick s = .next s :=
  ⟨event_of_atRest (effect := State.clockPeriod) hpower (if_neg (ne_true_of_eq_false (tickDue_of_lt h))) (atRest_prescaler hrest _),
    event_of_atRest (effect := fun s => if s.tickDue then s.tick else s) hpower (if_neg (ne_true_of_eq_false (tickDue_of_lt h))) hrest⟩

/-- The period that ends with a tick is the tick (R174). -/
theorem exec_timebaseTick_of_due (hpower : s.power = .operating) (h : s.divide.toNat ≤ s.prescaler.toNat) :
    exec .timebaseTick s = .next (State.settle s.tick.queuedRequests s.tick) :=
  event_of_operating (effect := fun s => if s.tickDue then s.tick else s) hpower (if_pos (tickDue_of_le h))

theorem exec_referenceClockPeriod_of_due (hpower : s.power = .operating) (h : s.divide.toNat ≤ s.prescaler.toNat) :
    exec .referenceClockPeriod s = .next (State.settle s.tick.queuedRequests s.tick) :=
  event_of_operating (effect := State.clockPeriod) hpower (if_pos (tickDue_of_le h))

/-- An expiry that the state rules out is no event. -/
theorem exec_leaseExpiry_of_none (hpower : s.power = .operating) (hrest : s.AtRest) {n : LockId}
    (h : (s.tickTaken && (s.lock n).expiresNext) = false) : exec (.leaseExpiry n) s = .next s :=
  event_of_atRest (effect := fun s => if s.tickTaken && (s.lock n).expiresNext then s.tick else s) hpower (if_neg (ne_true_of_eq_false h)) hrest

theorem exec_coalescingTimerExpiry_of_none (hpower : s.power = .operating) (hrest : s.AtRest) {p : Port}
    (h : (s.tickTaken && (s.port p).timer.expiresNext) = false) : exec (.coalescingTimerExpiry p) s = .next s :=
  event_of_atRest (effect := fun s => if s.tickTaken && (s.port p).timer.expiresNext then s.tick else s) hpower
    (if_neg (ne_true_of_eq_false h)) hrest

theorem tickTaken_of_draining (h : s.draining = true) : s.tickTaken = false := by simp [State.tickTaken, h]

/-! ### A tick at which no lease expires -/

/-- Where no counter stands at 1, or stands at 0 already, the lock unit's tick takes one from the running ones and does nothing else (R123). -/
theorem leaseTick_of_no_expiry (h : ∀ n : LockId, (s.lock n).counter ≠ some 1 ∧ (s.lock n).counter ≠ some 0) : s.leaseTick = s.ticked := by
  refine foldl_same State.expireIfDue allLocks s.ticked fun n => if_neg ?_
  obtain ⟨hone, hzero⟩ := h n
  rw [lock_ticked]
  cases hcounter : (s.lock n).counter with
  | none => simp [Lock.tick, hcounter]
  | some k =>
      rw [hcounter, Ne, Option.some.injEq] at hone hzero
      simp only [Lock.tick, hcounter, Option.map_some, Option.some.injEq]
      omega

theorem deliverTick_of_no_expiry (h : ∀ n : LockId, (s.lock n).counter ≠ some 1 ∧ (s.lock n).counter ≠ some 0) :
    s.deliverTick = s.ticked.timersTick := by
  have hnone : (allLocks.any fun n => (s.lock n).expiresNext) = false := by
    simp [Lock.expiresNext, (h _).1]
  rw [State.deliverTick, State.tickRaces, hnone, leaseTick_of_no_expiry h]
  rfl

/-- A tick at which no lease expires is followed by the transmitters' choice alone (R142, R148). -/
theorem tick_settled_of_no_expiry (h : s.Quiet) (hnone : ∀ n : LockId, (s.lock n).counter ≠ some 1 ∧ (s.lock n).counter ≠ some 0) (k : Nat) :
    State.settle k s.tick = ({ s with prescaler := 0 } : State).ticked.timersTick.reportAll := by
  obtain ⟨_, hdrain, hrest, hqueue⟩ := h
  have htick : s.tick = ({ s with prescaler := 0 } : State).ticked.timersTick := by
    rw [tick_of_operating hdrain]
    exact deliverTick_of_no_expiry hnone
  have hport : ∀ q, s.tick.port q = { s.port q with timer := (s.port q).timer.tick } := fun q => by
    rw [htick]
    exact port_mapPorts _ _ q
  have hstirs : StirsPorts ({ s with prescaler := 0 } : State).ticked s.tick :=
    ⟨hrest, hdrain, by rw [htick]; rfl, fun q => by rw [hport]; rfl, fun q => by rw [hport]; exact id⟩
  rw [hstirs.settle (fun q hmay => absurd ?_ (requestQueue_of_mayTake hmay)), htick]
  rw [requestQueue_report, hport]
  exact hqueue q

end

/-! ### A timer that does not expire -/

section
variable {r : PortRec} (h : r.timer ≠ .running 1 ∧ r.timer ≠ .running 0)
include h

theorem timer_tick_of_no_expiry :
    r.timer.tick = match r.timer with
      | .running k => .running (k - 1)
      | .stopped => .stopped
      | .expired => .expired := by
  cases htimer : r.timer with
  | running k =>
      obtain ⟨hone, hzero⟩ := h
      rw [htimer, Ne, Timer.running.injEq] at hone hzero
      exact if_neg (by omega)
  | stopped => rfl
  | expired => rfl

/-- A timer that runs on makes no batch due (R138). -/
theorem canTransmit_timer_tick : ({ r with timer := r.timer.tick } : PortRec).canTransmit = r.canTransmit := by
  have hexpired : (r.timer.tick == .expired) = (r.timer == .expired) := by
    rw [timer_tick_of_no_expiry h]
    cases r.timer <;> rfl
  simp only [PortRec.canTransmit, PortRec.batchDue, hexpired]

end

/-- Settles O50: the periods without a tick, the tick at which nothing expires, and both during a device reset. -/
theorem clockPeriodsAndTicks : Obligations.ClockPeriodsAndTicks := by
  refine ⟨fun s hquiet => ?_, fun s hpower hdrain hrest => ⟨exec_of_not_due hpower hrest, fun hdue => ?_⟩⟩
  · obtain ⟨hpower, hdrain, hrest, _⟩ := id hquiet
    refine ⟨exec_of_not_due hpower hrest, fun hdue => ⟨?_, fun hleases htimers => ?_⟩⟩
    · rw [exec_referenceClockPeriod_of_due hpower hdue, exec_timebaseTick_of_due hpower hdue]
    · have hport : ∀ q, ({ s with prescaler := 0 } : State).ticked.timersTick.port q = { s.port q with timer := (s.port q).timer.tick } :=
        fun q => port_mapPorts _ _ q
      have hnothing : ∀ q, (({ s with prescaler := 0 } : State).ticked.timersTick.port q).canTransmit = false := fun q => by
        rw [hport, canTransmit_timer_tick (htimers q)]
        exact canTransmit_of_atRest hrest hdrain q
      have hexec : exec .timebaseTick s = .next ({ s with prescaler := 0 } : State).ticked.timersTick := by
        rw [exec_timebaseTick_of_due hpower hdue, tick_settled_of_no_expiry hquiet hleases, reportAll_of_none hnothing]
      refine ⟨_, hexec, rfl, fun n => lock_ticked s n, fun p => (hport p).trans ?_⟩
      exact congrArg (fun timer => ({ s.port p with timer } : PortRec)) (timer_tick_of_no_expiry (htimers p))
  · have hsettle : State.settle s.tick.queuedRequests s.tick = { s with prescaler := 0 } := by
      rw [tick_of_draining hdrain]
      exact AtRest.settle (atRest_prescaler hrest 0) _
    rw [exec_referenceClockPeriod_of_due hpower hdue, exec_timebaseTick_of_due hpower hdue, hsettle]
    refine ⟨rfl, rfl, fun n _ => exec_leaseExpiry_of_none hpower hrest ?_, fun p _ => exec_coalescingTimerExpiry_of_none hpower hrest ?_⟩ <;>
      rw [tickTaken_of_draining hdrain, Bool.false_and]

end Sys2Proof.Machine
end

section
/-! PROOFS. The leases that expire at one tick: what a port gains at each of its parts, the expiries one by one, and the whole tick in whatever order its consumers are reached (R120, R123, R124, R128, R174, R180; logs 2, 8 and 9). -/

namespace Sys2Proof.Machine

/-! ### What a port gains -/

/-- Port record x follows r with new records, alerts aside: its state and its requests are r's, and it is idle for a fence only where r is. -/
structure PortRec.Gains (new : List Record) (r x : PortRec) : Prop where
  state : x.state = r.state
  requests : x.requestQueue = r.requestQueue
  idle : x.fenceIdle = true → r.fenceIdle = true
  records : x.outgoing.filter Record.isNoAlert = r.outgoing.filter Record.isNoAlert ++ new

namespace PortRec.Gains

variable {new later : List Record} {r x y : PortRec}

theorem refl (r : PortRec) : Gains [] r r := ⟨rfl, rfl, id, (List.append_nil _).symm⟩

theorem trans (h : Gains new r x) (h' : Gains later x y) : Gains (new ++ later) r y :=
  ⟨h'.state.trans h.state, h'.requests.trans h.requests, fun hy => h.idle (h'.idle hy), by
    rw [h'.records, h.records, List.append_assoc]⟩

/-- A choice, a tick or an alert after a gain. -/
theorem quietly (h : Gains new r x) (h' : Gains [] x y) : Gains new r y := List.append_nil new ▸ h.trans h'

end PortRec.Gains

/-- The frame a transmitter begins takes its records from the front of the queue (R139, R148). -/
theorem outgoing_beginFrame {r : PortRec} (h : r.transmitter = none) : r.beginFrame.outgoing = r.outgoing := by
  unfold PortRec.beginFrame
  split
  · simp [PortRec.outgoing, PortRec.formBatch, PortRec.batchRecords, h]
  · split <;> simp [PortRec.outgoing, h]

theorem outgoing_placePending (r : PortRec) : r.placePending.outgoing = r.outgoing := by
  have hqueue : r.placePending.completionQueue = r.completionQueue := by
    unfold PortRec.placePending
    split
    · exact completionQueue_countReply _ _
    · rfl
  rw [PortRec.outgoing, transmitter_placePending, hqueue, PortRec.outgoing]

theorem gains_report (r : PortRec) : PortRec.Gains [] r r.report := by
  refine ⟨state_report r, requestQueue_report r, fenceIdle_of_report, ?_⟩
  rw [List.append_nil]
  unfold PortRec.report
  split
  · rename_i hcan
    simp only [PortRec.canTransmit, Bool.and_eq_true, Option.isNone_iff_eq_none] at hcan
    obtain ⟨⟨hfree, _⟩, _⟩ := hcan
    rw [outgoing_placePending, outgoing_beginFrame hfree]
  · rfl

theorem gains_timer (r : PortRec) (timer : Timer) : PortRec.Gains [] r { r with timer } := ⟨rfl, rfl, id, (List.append_nil _).symm⟩

theorem gains_addRecord (r : PortRec) (y : Record) : PortRec.Gains ([y].filter Record.isNoAlert) r (r.addRecord y) :=
  ⟨rfl, rfl, ((PortRec.Fuller.refl r).addRecord y).fenceIdle, by
    rw [← List.filter_append]
    simp [PortRec.outgoing, PortRec.addRecord]⟩

/-! ### What every port gains -/

/-- Every port gains its part of the new records. -/
def State.Gains (new : Port → List Record) (s t : State) : Prop := ∀ q : Port, PortRec.Gains (new q) (s.port q) (t.port q)

section
variable {new later : Port → List Record} {s t u : State}

theorem State.Gains.trans (h : s.Gains new t) (h' : t.Gains later u) : s.Gains (fun q => new q ++ later q) u := fun q => (h q).trans (h' q)

theorem State.Gains.quietly (h : s.Gains new t) (h' : t.Gains (fun _ => []) u) : s.Gains new u := fun q => (h q).quietly (h' q)

theorem gains_mapPorts {f : Port → PortRec → PortRec} (h : ∀ q, PortRec.Gains [] (s.port q) (f q (s.port q))) :
    s.Gains (fun _ => []) (s.mapPorts f) := fun q => by
  rw [port_mapPorts]
  exact h q

theorem gains_timersTickOf (s : State) (who : Port → Bool) : s.Gains (fun _ => []) (s.timersTickOf who) :=
  gains_mapPorts fun q => by
    split
    · exact gains_timer _ _
    · exact .refl _

theorem gains_reportOf (s : State) (who : Port → Bool) : s.Gains (fun _ => []) (s.reportOf who) :=
  gains_mapPorts fun q => by
    split
    · exact gains_report _
    · exact .refl _

theorem gains_occurrence (hdrain : s.draining = false) (c : AlertCause) (p : Port) (a : Option (BitVec 32)) :
    s.Gains (fun _ => []) (s.occurrence c p a) := fun q => by
  rw [port_occurrence hdrain]
  split
  · exact gains_addRecord (s.port q) (.alert c 1 (some p) a)
  · exact .refl _

/-- The record of the grant that a lock's passing on gives (R120). -/
def Lock.grantRecords (l : Lock) (n : LockId) (p q : Port) : List Record :=
  match (ringAfter p).find? fun r => l.pending[r].isSome with
  | some r => if r = q then [.grant n (l.pending[r].getD 0)] else []
  | none => []

theorem gains_passLock (s : State) (n : LockId) (p : Port) : s.Gains (fun q => (s.lock n).grantRecords n p q) (s.passLock n p) := fun q => by
  cases hnext : (ringAfter p).find? fun r => (s.lock n).pending[r].isSome with
  | none =>
      simp only [State.passLock, Lock.grantRecords, hnext]
      exact .refl _
  | some r =>
      simp only [State.passLock, Lock.grantRecords, hnext, port_addRecord, port_setLock]
      split
      · exact gains_addRecord (s.port q) (.grant n ((s.lock n).pending[r].getD 0))
      · exact .refl _

theorem draining_passLock (s : State) (n : LockId) (p : Port) : (s.passLock n p).draining = s.draining :=
  (congrArg State.draining (passLock_keeps s n p) :)

theorem grantRecords_of_not_pending {l : Lock} {q : Port} (h : l.pending[q] = none) (n : LockId) (p : Port) : l.grantRecords n p q = [] := by
  unfold Lock.grantRecords
  split
  · rename_i r hnext
    obtain ⟨hwaits, _⟩ := find?_ringAfter_eq_some.1 hnext
    refine if_neg ?_
    rintro rfl
    simp [h] at hwaits
  · rfl

theorem grantRecords_of_pending {l : Lock} {q : Port} {tag : Tag} (h : l.pending[q] = some tag) (n : LockId) (p : Port) :
    l.grantRecords n p q = if (ringAfter p).find? (fun r => l.pending[r].isSome) = some q then [.grant n tag] else [] := by
  unfold Lock.grantRecords
  cases (ringAfter p).find? fun r => l.pending[r].isSome with
  | none => rfl
  | some r =>
      by_cases hr : r = q
      · subst hr
        simp [h]
      · simp [hr]

/-- What an expiry adds is LEASE_LOST to the owner and the grant to the next pending port, which the owner is not (R111, R120, R124). -/
theorem expiryRecords_eq {l : Lock} {p : Port} (howner : l.owner = some p) (hnot : l.pending[p] = none) (n : LockId) (q : Port) :
    l.expiryRecords n q = (if p = q then [.leaseLost n] else []) ++ l.grantRecords n p q := by
  by_cases hq : p = q
  · subst hq
    simp [Lock.expiryRecords, howner, grantRecords_of_not_pending hnot]
  · rw [if_neg hq, List.nil_append]
    cases hheld : l.pending[q] with
    | none => simp [Lock.expiryRecords, howner, hheld, hq, grantRecords_of_not_pending hheld]
    | some tag =>
        simp only [Lock.expiryRecords, howner, hheld, if_neg hq, grantRecords_of_pending hheld, find?_ringAfter_eq_some,
          Option.isSome_some, true_and, Option.isSome_eq_false_iff, Option.isNone_iff_eq_none]

theorem gains_losesLease (hdrain : s.draining = false) {n : LockId} {p : Port} (howner : (s.lock n).owner = some p)
    (hnot : (s.lock n).pending[p] = none) : s.Gains (fun q => (s.lock n).expiryRecords n q) (s.losesLease n p) := by
  have hlost : s.Gains (fun q => if p = q then [.leaseLost n] else []) (s.addRecord p (.leaseLost n)) := fun q => by
    simp only [port_addRecord]
    split
    · exact gains_addRecord (s.port q) (.leaseLost n)
    · exact .refl _
  have hpass : ((s.addRecord p (.leaseLost n)).passLock n p).draining = false := (draining_passLock _ n p).trans hdrain
  simp only [expiryRecords_eq howner hnot]
  exact (hlost.trans (gains_passLock (s.addRecord p (.leaseLost n)) n p)).quietly (gains_occurrence hpass _ _ _)

end

/-! ### The expiries, one by one -/

/-- t follows s by the expiries of the leases of a list of locks, in its order, as the tick found the locks (R124, R128, R180). -/
structure State.Expires (found : LockId → Lock) (l : List LockId) (s t : State) : Prop where
  frame : t.butLeases = s.butLeases
  gains : s.Gains (fun q => l.flatMap fun n => (found n).expiryRecords n q) t
  counted : t.leaseExpiries = s.leaseExpiries + BitVec.ofNat 32 l.length
  latched : t.latch .leaseExpired =
    l.foldl (fun a n => a.after ((found n).owner.getD 0) (some (BitVec.ofNat 32 n.val))) (s.latch .leaseExpired)
  others : ∀ c : AlertCause, c ≠ .leaseExpired → t.latch c = s.latch c

section
variable {found : LockId → Lock} {s t u : State}

theorem State.Expires.draining {l : List LockId} (h : s.Expires found l t) : t.draining = s.draining := (congrArg State.draining h.frame :)

theorem State.Expires.trans {l l' : List LockId} (h : s.Expires found l t) (h' : t.Expires found l' u) : s.Expires found (l ++ l') u where
  frame := h'.frame.trans h.frame
  gains := by
    simp only [List.flatMap_append]
    exact h.gains.trans h'.gains
  counted := by rw [h'.counted, h.counted, List.length_append, BitVec.ofNat_add, BitVec.add_assoc]
  latched := by rw [h'.latched, h.latched, List.foldl_append]
  others c hc := (h'.others c hc).trans (h.others c hc)

/-- A change of locks, and of ports that gain nothing. -/
theorem expires_nil (hsame : t.butLocks = s.butLocks) (hgains : s.Gains (fun _ => []) t) : s.Expires found [] t where
  frame := butLeases_of_butLocks hsame
  gains := hgains
  counted := (congrArg State.leaseExpiries hsame :).trans (BitVec.add_zero _).symm
  latched := (congrArg (fun v : State => v.latch .leaseExpired) hsame :)
  others c _ := (congrArg (fun v : State => v.latch c) hsame :)

theorem expires_timersTickOf (s : State) (who : Port → Bool) : s.Expires found [] (s.timersTickOf who) :=
  expires_nil (butLocks_of_butPorts (timersTickOf_keeps s who)) (gains_timersTickOf s who)

theorem expires_reportOf (s : State) (who : Port → Bool) : s.Expires found [] (s.reportOf who) :=
  expires_nil rfl (gains_reportOf s who)

theorem expires_reportAll (hdrain : s.draining = false) : s.Expires found [] s.reportAll :=
  expires_nil (butLocks_of_butPorts (reportAll_keeps s)) fun q => by
    rw [port_reportAll hdrain]
    exact gains_report _

theorem expires_expireLease (hdrain : s.draining = false) {n : LockId} {p : Port} (hlock : s.lock n = (found n).tick)
    (howner : (found n).owner = some p) (hnot : (found n).pending[p] = none) : s.Expires found [n] (s.expireLease n) := by
  have hown : (s.lock n).owner = some p := by rw [hlock]; exact howner
  have hpend : (s.lock n).pending[p] = none := by rw [hlock]; exact hnot
  have hrecords : (s.lock n).expiryRecords n = (found n).expiryRecords n := by rw [hlock]; rfl
  have hpass : ((s.addRecord p (.leaseLost n)).passLock n p).butLocks = s.butLocks := passLock_keeps (s.addRecord p (.leaseLost n)) n p
  have hlatch : ∀ c, ((s.addRecord p (.leaseLost n)).passLock n p).latch c = s.latch c := fun c => (congrArg (fun v : State => v.latch c) hpass :)
  have hdrain' : ((s.addRecord p (.leaseLost n)).passLock n p).draining = false := (congrArg State.draining hpass :).trans hdrain
  have hcount : (s.losesLease n p).leaseExpiries = s.leaseExpiries :=
    (congrArg State.leaseExpiries (occurrence_keeps _ _ _ _) :).trans (congrArg State.leaseExpiries hpass :)
  refine ⟨expireLease_keeps s n, fun q => ?_, ?_, ?_, fun c hc => ?_⟩ <;> rw [expireLease_of_owner hown]
  · have hgains := gains_losesLease hdrain hown hpend q
    rw [hrecords] at hgains
    simp only [List.flatMap_singleton]
    exact hgains
  · exact congrArg (· + 1) hcount
  · refine (latch_occurrence hdrain' .leaseExpired p _ .leaseExpired).trans ?_
    rw [if_pos rfl, hlatch, List.foldl_cons, List.foldl_nil, howner, Option.getD_some]
  · refine (latch_occurrence hdrain' .leaseExpired p _ c).trans ?_
    rw [if_neg (Ne.symm hc), hlatch]

/-- The expiries of different locks, each as the tick found it: an expiry changes no other lock (R128). -/
theorem expires_foldl {l : List LockId} (hl : l.Nodup) (hdrain : s.draining = false) (hlock : ∀ n ∈ l, s.lock n = (found n).tick)
    (howned : ∀ n ∈ l, ∃ p, (found n).owner = some p ∧ (found n).pending[p] = none) : s.Expires found l (l.foldl State.expireLease s) := by
  induction l generalizing s with
  | nil => exact expires_nil rfl fun q => .refl _
  | cons n l ih =>
      obtain ⟨hn, hl⟩ := List.nodup_cons.1 hl
      obtain ⟨p, howner, hnot⟩ := howned n List.mem_cons_self
      have hfirst := expires_expireLease hdrain (hlock n List.mem_cons_self) howner hnot
      refine hfirst.trans (ih hl (hfirst.draining.trans hdrain) (fun m hm => ?_) fun m hm => howned m (List.mem_cons_of_mem n hm))
      rw [lock_expireLease, if_neg (ne_of_mem_of_not_mem hm hn).symm]
      exact hlock m (List.mem_cons_of_mem n hm)

end

/-! ### The whole tick -/

section
variable {s : State}

/-- The tick of lawful locks: each counter, then the expiries (R123, R124). -/
theorem expires_leaseTick (hdrain : s.draining = false) (hlaw : s.LockLaw) : s.Expires s.lock s.expiring s.leaseTick := by
  have hticked : s.Expires s.lock [] s.ticked := expires_nil rfl fun q => .refl _
  rw [leaseTick_eq hlaw]
  refine hticked.trans (expires_foldl (nodup_expiring s) hdrain (fun n _ => lock_ticked s n) fun n hn => ?_)
  obtain ⟨p, howner⟩ := owner_of_counter (hlaw n) (mem_expiring.1 hn)
  obtain ⟨_, hnot, _⟩ := hlaw n
  exact ⟨p, howner, hnot p howner⟩

/-- In whatever order a tick reaches its consumers, the lock unit's part of it is the same (R174; log 8). -/
theorem expires_tickInOrder (hdrain : s.draining = false) (hlaw : s.LockLaw) (order : Nat) :
    s.Expires s.lock s.expiring (s.tickInOrder order) := by
  have hbefore : s.Expires s.lock [] ((s.timersTickOf (timerFirst order)).reportOf (reportsBetween order)) :=
    (expires_timersTickOf s _).trans (expires_reportOf _ _)
  have htick : State.Expires s.lock s.expiring _ _ :=
    expires_leaseTick (s := (s.timersTickOf (timerFirst order)).reportOf (reportsBetween order)) hdrain hlaw
  have hthrough := (hbefore.trans htick).trans ((expires_reportOf _ (reportsBetween order)).trans
    (expires_timersTickOf _ fun p => !timerFirst order p))
  rwa [List.append_nil, List.append_nil] at hthrough

theorem lock_tickInOrder (hlaw : s.LockLaw) (order : Nat) (n : LockId) :
    (s.tickInOrder order).lock n = if (s.lock n).counter = some 1 then (s.lock n).tick.expired else (s.lock n).tick := by
  have htimers : ∀ (t : State) who, (t.timersTickOf who).lock n = t.lock n := fun t who => lock_mapPorts t _ n
  have hreports : ∀ (t : State) who, (t.reportOf who).lock n = t.lock n := fun t who => lock_mapPorts t _ n
  have hlaw' : ((s.timersTickOf (timerFirst order)).reportOf (reportsBetween order)).LockLaw := hlaw
  rw [State.tickInOrder, htimers, hreports, lock_leaseTick hlaw', hreports, htimers]

/-- A tick of which the order cannot show is one in which the lock unit comes first (log 8). -/
theorem tickInOrder_zero (s : State) : s.tickInOrder 0 = s.leaseTick.timersTick := by
  have htimers : ∀ t : State, t.timersTickOf (timerFirst 0) = t := fun t => mapPorts_id t _ fun p => by simp [timerFirst]
  have hreports : ∀ t : State, t.reportOf (reportsBetween 0) = t := fun t => mapPorts_id t _ fun p => by simp [reportsBetween]
  rw [State.tickInOrder, htimers, hreports, hreports, State.timersTickOf, State.timersTick]
  simp [timerFirst]

theorem deliverTick_eq_tickInOrder (s : State) : ∃ order free, s.deliverTick = ({ s with freeCount := free } : State).tickInOrder order := by
  unfold State.deliverTick
  split
  · exact ⟨s.drawPick.1, s.freeCount + 1, rfl⟩
  · exact ⟨0, s.freeCount, (tickInOrder_zero s).symm⟩

/-- A lease's expiry reaches ports, latches, locks and the count of expiries: with these last two given, only ports and latches are left. -/
theorem butLatches_of_butLeases {t : State} (h : t.butLeases = s.butLeases) :
    t.butLatches = ({ s with locks := t.locks, leaseExpiries := t.leaseExpiries } : State).butLatches :=
  (congrArg (fun v : State => { v with locks := t.locks, leaseExpiries := t.leaseExpiries }) h :)

/-- A tick at lawful locks, with all that follows it: the expiries, and every lock (R123, R124, R148). -/
theorem tick_settled (h : s.Quiet) (hlaw : s.LockLaw) (k : Nat) :
    ∃ free, ({ s with prescaler := 0, freeCount := free } : State).Expires s.lock s.expiring (State.settle k s.tick)
      ∧ ∀ n, (State.settle k s.tick).lock n = if (s.lock n).counter = some 1 then (s.lock n).tick.expired else (s.lock n).tick := by
  obtain ⟨_, hdrain, hrest, hqueue⟩ := h
  obtain ⟨order, free, horder⟩ := deliverTick_eq_tickInOrder { s with prescaler := 0 }
  have htick := (tick_of_operating hdrain).trans horder
  have hexpires := expires_tickInOrder (s := { s with prescaler := 0, freeCount := free }) hdrain hlaw order
  have hlock := lock_tickInOrder (s := { s with prescaler := 0, freeCount := free }) hlaw order
  rw [← htick] at hexpires hlock
  have hstirs : StirsPorts { s with prescaler := 0, freeCount := free, locks := s.tick.locks, leaseExpiries := s.tick.leaseExpiries } s.tick :=
    ⟨hrest, hdrain, butLatches_of_butLeases hexpires.frame, fun q => (hexpires.gains q).state, fun q => (hexpires.gains q).idle⟩
  have hsettle : State.settle k s.tick = s.tick.reportAll := hstirs.settle (fun q hmay => absurd
    ((requestQueue_report _).trans ((hexpires.gains q).requests.trans (hqueue q))) (requestQueue_of_mayTake hmay)) k
  rw [hsettle]
  refine ⟨free, List.append_nil s.expiring ▸ hexpires.trans (expires_reportAll hstirs.draining), fun n => ?_⟩
  exact (congrArg (fun v : State => v.lock n) (reportAll_keeps s.tick)).trans (hlock n)

end

/-! ### The owner's record and the grant -/

theorem expiryRecords_owner {l : Lock} {p : Port} (h : l.owner = some p) (n : LockId) : l.expiryRecords n p = [.leaseLost n] := by
  simp [Lock.expiryRecords, h]

theorem expiryRecords_nextAfter {l : Lock} {p k : Port} {held : Tag} (howner : l.owner = some p) (h : l.nextAfter p k held) (n : LockId) :
    l.expiryRecords n (p + k) = [.grant n held] := by
  obtain ⟨_, hbefore⟩ := find?_ringAfter_eq_some.1 (find?_pending_of_nextAfter h)
  obtain ⟨hk, hheld, _⟩ := h
  have hne : p ≠ p + k := fun he => hk (by simpa using he.symm)
  simp only [Lock.expiryRecords, howner, if_neg hne, hheld]
  exact if_pos fun j hj => by simpa using hbefore j hj

/-- A record of an expiry is in its port's records after the tick. -/
theorem State.Expires.mem_outgoing {found : LockId → Lock} {l : List LockId} {s t : State} (h : s.Expires found l t) {n : LockId} (hn : n ∈ l)
    {q : Port} {x : Record} (hx : x ∈ (found n).expiryRecords n q) : x ∈ (t.port q).outgoing := by
  refine List.mem_of_mem_filter (p := Record.isNoAlert) ?_
  rw [(h.gains q).records]
  exact List.mem_append_right _ (List.mem_flatMap.2 ⟨n, hn, hx⟩)

/-- Settles O51: the tick with its expiries; and at a period without a tick, or a counter not at 1, no event. -/
theorem leasesExpire : Obligations.LeasesExpire := by
  intro s n hquiet hlaw
  obtain ⟨hpower, hdrain, hrest, _⟩ := id hquiet
  refine ⟨fun hdue hcounter => ?_, fun hnone => exec_leaseExpiry_of_none hpower hrest ?_⟩
  · have htaken : (s.tickTaken && (s.lock n).expiresNext) = true := by
      simp [State.tickTaken, tickDue_of_le hdue, hdrain, Lock.expiresNext, hcounter]
    obtain ⟨free, hexpires, hlock⟩ := tick_settled hquiet hlaw s.tick.queuedRequests
    refine ⟨_, event_of_operating (effect := fun s => if s.tickTaken && (s.lock n).expiresNext then s.tick else s) hpower (if_pos htaken), ?_⟩
    generalize State.settle s.tick.queuedRequests s.tick = u at hexpires hlock ⊢
    refine ⟨?_, hexpires.latched, hexpires.others, fun x hx p howner => ⟨?_, fun hwaits => ?_, fun k held hnext => ⟨?_, ?_⟩⟩,
      fun q => (hexpires.gains q).records, fun j hj => (hlock j).trans (if_neg hj)⟩
    · have hframe : u = { s with
          prescaler := 0, freeCount := free, ports := u.ports, locks := u.locks, latches := u.latches, leaseExpiries := u.leaseExpiries } :=
        (congrArg (fun v : State =>
          { v with ports := u.ports, locks := u.locks, latches := u.latches, leaseExpiries := u.leaseExpiries }) hexpires.frame :)
      have hfree : u.freeCount = free := (congrArg State.freeCount hframe :)
      rw [← hexpires.counted, hfree]
      exact hframe
    · exact hexpires.mem_outgoing hx (by rw [expiryRecords_owner howner]; exact List.mem_singleton_self _)
    · rw [hlock, if_pos (mem_expiring.1 hx), expired_tick howner, passedOn_of_none hwaits]
    · rw [hlock, if_pos (mem_expiring.1 hx), expired_tick howner, passedOn_of_nextAfter hnext]
    · exact hexpires.mem_outgoing hx (by rw [expiryRecords_nextAfter howner hnext]; exact List.mem_singleton_self _)
  · rcases hnone with hlt | hcounter
    · simp [State.tickTaken, tickDue_of_lt hlt]
    · simp [Lock.expiresNext, hcounter]

end Sys2Proof.Machine
end

section
/-! PROOFS. The bound of forty (7.1), part one: what a port's record and a lock may still add to the port's completion queue, and how their changes spend it (R111, R112, R133, R134, R139, R181). -/

namespace Sys2Proof.Machine

/-! ### A queue and the ALERT records it has room for -/

/-- The alert causes of which a queue holds no record (R181). -/
def openCauses (l : List Record) : List AlertCause := allCauses.filter fun c => !l.any (Record.isAlertOf c)

/-- A queue's records and the ALERT records that it has room for. -/
def queueLoad (l : List Record) : Nat := l.length + (openCauses l).length

theorem nodup_openCauses (l : List Record) : (openCauses l).Nodup := (by decide : allCauses.Nodup).filter _

theorem length_openCauses_le (l : List Record) : (openCauses l).length ≤ 6 := List.length_filter_le _ allCauses

theorem openCauses_cons_of_noAlert {x : Record} (h : x.isNoAlert = true) (l : List Record) : openCauses (x :: l) = openCauses l := by
  have hnone : ∀ c, x.isAlertOf c = false := fun c => by cases x <;> simp_all [Record.isAlertOf, Record.isNoAlert]
  simp [openCauses, hnone]

/-- An ALERT record takes the room of its cause. -/
theorem openCauses_cons_alert (c : AlertCause) (count : BitVec 16) (p : Option Port) (a : Option (BitVec 32)) (l : List Record) :
    openCauses (.alert c count p a :: l) = (openCauses l).erase c := by
  rw [(nodup_openCauses l).erase_eq_filter, openCauses, openCauses, List.filter_filter]
  refine List.filter_congr fun d _ => ?_
  simp only [List.any_cons, Record.isAlertOf, Bool.not_or, bne, Bool.beq_comm (a := c)]

theorem openCauses_append_singleton (l : List Record) (x : Record) : openCauses (l ++ [x]) = openCauses (x :: l) := by
  refine List.filter_congr fun c _ => ?_
  rw [List.any_append, List.any_cons, List.any_cons, List.any_nil, Bool.or_false, Bool.or_comm]

/-- A record more leaves room for the ALERT records of all causes but its own. -/
theorem queueLoad_le_cons (x : Record) (l : List Record) : queueLoad l ≤ queueLoad (x :: l) := by
  cases x with
  | alert c count p a =>
      simp only [queueLoad, openCauses_cons_alert, List.length_cons, List.length_erase]
      split <;> omega
  | done | grant | leaseLost | fenceDone =>
      rw [queueLoad, queueLoad, openCauses_cons_of_noAlert rfl, List.length_cons]
      omega

theorem queueLoad_drop_le (n : Nat) (l : List Record) : queueLoad (l.drop n) ≤ queueLoad l := by
  induction l generalizing n with
  | nil => rw [List.drop_nil]
  | cons x l ih =>
      cases n with
      | zero => exact le_refl _
      | succ n => exact (ih n).trans (queueLoad_le_cons x l)

/-- A record added to a queue adds at most one. -/
theorem queueLoad_append_le (l : List Record) (x : Record) : queueLoad (l ++ [x]) ≤ queueLoad l + 1 := by
  have hroom : (openCauses (l ++ [x])).length ≤ (openCauses l).length := by
    rw [openCauses_append_singleton]
    exact (List.monotone_filter_right allCauses fun c => by simp).length_le
  rw [queueLoad, queueLoad, List.length_append, List.length_singleton]
  omega

/-- An ALERT record of a cause that the queue does not hold takes the room it had (R181). -/
theorem queueLoad_append_alert {l : List Record} {c : AlertCause} (h : l.any (Record.isAlertOf c) = false) (count : BitVec 16)
    (p : Option Port) (a : Option (BitVec 32)) : queueLoad (l ++ [.alert c count p a]) = queueLoad l := by
  have hmem : c ∈ openCauses l := List.mem_filter.2 ⟨by cases c <;> decide, by rw [h]; rfl⟩
  have hpos := List.length_pos_of_mem hmem
  rw [queueLoad, queueLoad, openCauses_append_singleton, openCauses_cons_alert, List.length_erase_of_mem hmem, List.length_append,
    List.length_singleton]
  omega

/-! ### What a port's record counts for -/

/-- A port's queue, the ALERT records it has room for, and the reply of a request in progress. -/
def PortRec.load (r : PortRec) : Nat := queueLoad r.completionQueue + r.replyLeft

theorem replyLeft_le_one (r : PortRec) : r.replyLeft ≤ 1 := by
  unfold PortRec.replyLeft
  split <;> omega

theorem replyLeft_of_some {r : PortRec} (h : r.engine.current.isSome = true) : r.replyLeft = 1 := if_pos h

section
variable {r x : PortRec}

theorem load_congr (hqueue : x.completionQueue = r.completionQueue) (hcurrent : x.engine.current = r.engine.current) : x.load = r.load := by
  rw [PortRec.load, PortRec.load, PortRec.replyLeft, PortRec.replyLeft, hqueue, hcurrent]

/-- Fewer records from the front of the queue, and an engine with a request only if it had one. -/
theorem load_le_of_drop {n : Nat} (hqueue : x.completionQueue = r.completionQueue.drop n)
    (hcurrent : x.engine.current.isSome = true → r.engine.current.isSome = true) : x.load ≤ r.load := by
  have hreply : x.replyLeft ≤ r.replyLeft := by
    unfold PortRec.replyLeft
    split
    · rw [if_pos (hcurrent ‹_›)]
    · exact Nat.zero_le _
  have hdrop := queueLoad_drop_le n r.completionQueue
  rw [PortRec.load, PortRec.load, hqueue]
  omega

/-- The same queue, and an engine with a request only if it had one. -/
theorem load_le (hqueue : x.completionQueue = r.completionQueue)
    (hcurrent : x.engine.current.isSome = true → r.engine.current.isSome = true) : x.load ≤ r.load := load_le_of_drop (n := 0) hqueue hcurrent

/-- An emptied queue, and an engine with a request only if it had one. -/
theorem load_le_of_nil (hqueue : x.completionQueue = [])
    (hcurrent : x.engine.current.isSome = true → r.engine.current.isSome = true) : x.load ≤ r.load :=
  load_le_of_drop (n := r.completionQueue.length) (by rw [hqueue, List.drop_length]) hcurrent

end

section
variable (r : PortRec)

theorem load_addRecord_le (y : Record) : (r.addRecord y).load ≤ r.load + 1 := by
  have hqueue := queueLoad_append_le r.completionQueue y
  have hload : (r.addRecord y).load = queueLoad (r.completionQueue ++ [y]) + r.replyLeft := rfl
  rw [hload, PortRec.load]
  omega

/-- The ALERT record that a port takes was counted before (R181). -/
theorem load_addRecord_alert {c : AlertCause} (h : r.takesAlert c = true) (count : BitVec 16) (p : Option Port) (a : Option (BitVec 32)) :
    (r.addRecord (.alert c count p a)).load = r.load := by
  have hnone : r.completionQueue.any (Record.isAlertOf c) = false := by
    simp only [PortRec.takesAlert, Bool.and_eq_true, Bool.not_eq_true'] at h
    exact h.2
  exact congrArg (· + r.replyLeft) (queueLoad_append_alert hnone count p a)

/-! ### Replies -/

/-- The DONE record of a request in progress takes the place of its reply to come (R105). -/
theorem load_replyDone_le (h : r.engine.current.isSome = true) (tag : Tag) (st : Status) (reason : Option Status) (done : Option (BitVec 16))
    (fault : Option (BitVec 40)) (value : Option (BitVec 32)) (mark : DoneMark) :
    (r.replyDone tag st reason done fault value mark).load ≤ r.load := by
  have hqueue := queueLoad_append_le r.completionQueue (.done tag st reason done fault value mark)
  have hreplied : (r.replyDone tag st reason done fault value mark).completionQueue =
      r.completionQueue ++ [.done tag st reason done fault value mark] := completionQueue_countReply _ _
  have hidle : (r.replyDone tag st reason done fault value mark).replyLeft = 0 := rfl
  rw [PortRec.load, PortRec.load, hreplied, hidle, replyLeft_of_some h]
  omega

/-- A DATA frame adds no record (R106). -/
theorem load_replyData_le (f : DataFrame) (flush : Bool) : (r.replyData f flush).load ≤ r.load := by
  unfold PortRec.replyData
  split
  · exact load_le (completionQueue_countReply _ _) nofun
  · exact load_le rfl id

theorem load_replyAccess_le (h : r.engine.current.isSome = true) (c : Current) (st : Status) (reason : Option Status) (done : Option (BitVec 16))
    (fault : Option (BitVec 40)) (body : DataBody) : (r.replyAccess c st reason done fault body).load ≤ r.load := by
  unfold PortRec.replyAccess
  split
  · exact load_replyDone_le r h _ _ _ _ _ _ _
  · exact load_replyData_le r _ _

theorem load_faultPortion_le (st : Status) : (r.faultPortion st).load ≤ r.load := by
  simp only [PortRec.faultPortion]
  split
  · exact le_refl _
  · rename_i c hcurrent
    have hsome : r.engine.current.isSome = true := by rw [hcurrent]; rfl
    split <;> exact load_replyAccess_le r hsome _ _ _ _ _ _

theorem load_resetAnswered_le (p : Port) : (r.resetAnswered p).load ≤ r.load := by
  unfold PortRec.resetAnswered
  split
  · split
    · rename_i c hcurrent
      exact load_replyDone_le r (by rw [hcurrent]; rfl) _ _ _ _ _ _ _
    · exact le_refl _
  · exact le_refl _

/-! ### The reporting unit and the resets -/

theorem load_placePending_le : r.placePending.load ≤ r.load := by
  unfold PortRec.placePending
  split
  · exact load_le (completionQueue_countReply _ _) nofun
  · exact le_refl _

/-- A batch takes its records out of the queue (R139). -/
theorem load_report_le : r.report.load ≤ r.load := by
  have hbegin : r.beginFrame.load ≤ r.load := by
    unfold PortRec.beginFrame
    split
    · exact load_le_of_drop rfl id
    · split <;> exact load_le rfl id
  unfold PortRec.report
  split
  · exact (load_placePending_le _).trans hbegin
  · exact le_refl _

theorem load_beginReset_le : r.beginReset.load ≤ r.load := load_le_of_nil rfl nofun

theorem load_drained_le : r.drained.load ≤ r.load := load_le_of_nil rfl fun h => by
  simp only [PortRec.drained, Engine.abandoned] at h
  split at h
  · cases h
  · exact h

end

/-! ### What a lock counts for -/

/-- The records that a lock may still add to a port's queue: two while the port waits for it, one while it owns it (R120, R124). -/
def Lock.recordsLeft (l : Lock) (p : Port) : Nat := (if l.pending[p].isSome then 2 else 0) + (if l.owner = some p then 1 else 0)

theorem lockRecordsLeft_eq (s : State) (p : Port) : s.lockRecordsLeft p = ∑ n, (s.lock n).recordsLeft p := by
  rw [State.lockRecordsLeft, allLocks_eq, Fin.sum_univ_def]
  rfl

/-- One lock replaced: the sum changes by that lock's part. -/
theorem lockRecordsLeft_setLock (s : State) (n : LockId) (l : Lock) (p : Port) :
    (s.setLock n l).lockRecordsLeft p + (s.lock n).recordsLeft p = s.lockRecordsLeft p + l.recordsLeft p := by
  have hsame : ∑ m ∈ Finset.univ.erase n, ((s.setLock n l).lock m).recordsLeft p = ∑ m ∈ Finset.univ.erase n, (s.lock m).recordsLeft p :=
    Finset.sum_congr rfl fun m hm => by rw [lock_setLock, if_neg (Finset.ne_of_mem_erase hm).symm]
  rw [lockRecordsLeft_eq, lockRecordsLeft_eq, ← Finset.add_sum_erase Finset.univ _ (Finset.mem_univ n),
    ← Finset.add_sum_erase Finset.univ (fun m => (s.lock m).recordsLeft p) (Finset.mem_univ n), hsame, lock_setLock_self]
  omega

/-- A lawful lock adds two at most, and to a port that holds it (R111). -/
theorem recordsLeft_le {l : Lock} (h : l.Lawful) (p : Port) : l.recordsLeft p ≤ if l.heldBy p then 2 else 0 := by
  obtain ⟨_, hone, _⟩ := h
  have hone := hone p
  unfold Lock.recordsLeft Lock.heldBy
  cases hp : l.pending[p] <;> by_cases ho : l.owner = some p <;> simp_all

/-- A port's locks add at most eight records (R112). -/
theorem lockRecordsLeft_le {s : State} (h : s.LocksLawful) (p : Port) : s.lockRecordsLeft p ≤ 8 := by
  have hsum : ∀ l : List LockId, (l.map fun n => (s.lock n).recordsLeft p).sum ≤ 2 * (l.filter fun n => (s.lock n).heldBy p).length := by
    intro l
    induction l with
    | nil => exact le_refl _
    | cons n l ih =>
        have hn := recordsLeft_le (h.law n) p
        rw [List.map_cons, List.sum_cons, List.filter_cons]
        split at hn
        · rw [if_pos ‹_›, List.length_cons]
          omega
        · rw [if_neg ‹_›]
          omega
  have hholdings : s.holdings p ≤ 4 := h.holdings p
  exact (hsum allLocks).trans (Nat.mul_le_mul_left 2 hholdings)

/-- A lock passed on by its owner: the port granted it has its GRANT and one record less to come, and the owner one less (R120). -/
theorem recordsLeft_grantedTo {l : Lock} {p q r : Port} (howner : l.owner = some p) (hwaits : l.pending[q].isSome = true) :
    (l.grantedTo q).recordsLeft r + (if q = r then 1 else 0) + (if p = r then 1 else 0) ≤ l.recordsLeft r := by
  simp only [Lock.recordsLeft, Lock.grantedTo, pending_set, howner, Option.some.injEq]
  by_cases hq : q = r
  · subst hq
    simpa using (if_pos hwaits).ge
  · simp [hq]

end Sys2Proof.Machine
end

section
/-! PROOFS. The bound of forty (7.1), part two: the budget of a port along the operations of the model. Memory operations, walks, grants, resets and ticks spend it and never raise it. -/

namespace Sys2Proof.Machine

/-! ### The budget -/

/-- A port's queue and all that may still be added to it before its engine takes another request or its receiver refuses one (7.1). -/
def State.budget (s : State) (p : Port) : Nat := (s.port p).load + s.lockRecordsLeft p + s.fenceRecordLeft p

theorem queueBudget_iff (s : State) : s.QueueBudget ↔ ∀ p, s.budget p ≤ 40 := by
  have hbudget : ∀ p, s.budget p =
      (s.port p).completionQueue.length + (s.port p).replyLeft + s.lockRecordsLeft p + (s.port p).alertsLeft + s.fenceRecordLeft p := fun p => by
    rw [State.budget, PortRec.load, queueLoad]
    show _ + (s.port p).alertsLeft + _ + _ + _ = _
    omega
  simp only [State.QueueBudget, hbudget]

theorem fenceRecordLeft_le_one (s : State) (p : Port) : s.fenceRecordLeft p ≤ 1 := by
  unfold State.fenceRecordLeft
  split
  · split <;> omega
  · omega
  · omega

/-- A port with no more than 24 records in its queue is within its budget: a reply, eight records of its locks, six ALERT records and a FENCE_DONE make 40 (7.1). -/
theorem budget_le_of_length {s : State} (h : s.LocksLawful) {p : Port} (hlength : (s.port p).completionQueue.length ≤ 24) : s.budget p ≤ 40 := by
  have hlocks := lockRecordsLeft_le h p
  have halerts := length_openCauses_le (s.port p).completionQueue
  have hreply := replyLeft_le_one (s.port p)
  have hfence := fenceRecordLeft_le_one s p
  rw [State.budget, PortRec.load, queueLoad]
  omega

/-! ### States that spend the budget -/

/-- No port's budget is higher in t than in s. -/
structure Spends (s t : State) : Prop where
  budget : ∀ p : Port, t.budget p ≤ s.budget p

section
variable {s t u : State}

theorem Spends.refl (s : State) : Spends s s := ⟨fun _ => le_refl _⟩

theorem Spends.trans (h : Spends s t) (h' : Spends t u) : Spends s u := ⟨fun p => (h'.budget p).trans (h.budget p)⟩

/-- Spends.trans with the later part first. -/
theorem Spends.after (h' : Spends t u) (h : Spends s t) : Spends s u := h.trans h'

theorem lockRecordsLeft_congr (h : t.locks = s.locks) (p : Port) : t.lockRecordsLeft p = s.lockRecordsLeft p := by
  simp only [lockRecordsLeft_eq, State.lock, h]

theorem fenceRecordLeft_congr (h : t.fence = s.fence) (p : Port) : t.fenceRecordLeft p = s.fenceRecordLeft p := by
  simp only [State.fenceRecordLeft, h]

/-- A change of ports that raises no port's load. -/
theorem Spends.of_loads (hlocks : t.locks = s.locks) (hfence : t.fence = s.fence) (h : ∀ p, (t.port p).load ≤ (s.port p).load) : Spends s t :=
  ⟨fun p => by
    have hload := h p
    rw [State.budget, State.budget, lockRecordsLeft_congr hlocks, fenceRecordLeft_congr hfence]
    omega⟩

/-- A change of nothing that the budget looks at. -/
theorem Spends.of_same (hports : t.ports = s.ports) (hlocks : t.locks = s.locks) (hfence : t.fence = s.fence) : Spends s t :=
  .of_loads hlocks hfence fun p => by rw [State.port, State.port, hports]

theorem Spends.of_butArbiters (h : t.butArbiters = s.butArbiters) : Spends s t :=
  .of_same (congrArg State.ports h :) (congrArg State.locks h :) (congrArg State.fence h :)

theorem Spends.of_butCache (h : t.butCache = s.butCache) : Spends s t :=
  .of_same (congrArg State.ports h :) (congrArg State.locks h :) (congrArg State.fence h :)

theorem Spends.of_butWalker (h : t.butWalker = s.butWalker) : Spends s t :=
  .of_same (congrArg State.ports h :) (congrArg State.locks h :) (congrArg State.fence h :)

theorem Spends.modPort {p : Port} {f : PortRec → PortRec} (h : (f (s.port p)).load ≤ (s.port p).load) : Spends s (s.modPort p f) :=
  .of_loads rfl rfl fun q => by
    rw [port_modPort]
    split
    · subst_vars
      exact h
    · exact le_refl _

theorem Spends.mapPorts {f : Port → PortRec → PortRec} (h : ∀ p, (f p (s.port p)).load ≤ (s.port p).load) : Spends s (s.mapPorts f) :=
  .of_loads rfl rfl fun q => by
    rw [port_mapPorts]
    exact h q

/-- A change of an engine that leaves its request. -/
theorem Spends.modEngine (s : State) (p : Port) {f : Engine → Engine} (h : ∀ e, (f e).current = e.current) : Spends s (s.modEngine p f) :=
  .modPort (f := fun r => { r with engine := f r.engine }) (le_of_eq (load_congr rfl (h _)))

/-- A change of an engine that has a request. -/
theorem Spends.modEngine_of_some {p : Port} {f : Engine → Engine} (h : (s.port p).engine.current.isSome = true) : Spends s (s.modEngine p f) :=
  .modPort (load_le rfl fun _ => h)

theorem Spends.setLock {n : LockId} {l : Lock} (h : ∀ p, l.recordsLeft p ≤ (s.lock n).recordsLeft p) : Spends s (s.setLock n l) :=
  ⟨fun p => by
    have hsum := lockRecordsLeft_setLock s n l p
    have hlock := h p
    show (s.port p).load + (s.setLock n l).lockRecordsLeft p + s.fenceRecordLeft p ≤ s.budget p
    rw [State.budget]
    omega⟩

/-- A fold of steps that spend the budget spends it. -/
theorem Spends.foldl {α : Type} {f : State → α → State} (hf : ∀ s a, Spends s (f s a)) (l : List α) (s : State) : Spends s (l.foldl f s) := by
  induction l generalizing s with
  | nil => exact .refl s
  | cons a l ih => exact (hf s a).trans (ih _)

theorem queueBudget_of_spends (h : Spends s t) (hs : s.QueueBudget) : t.QueueBudget :=
  (queueBudget_iff t).2 fun p => (h.budget p).trans ((queueBudget_iff s).1 hs p)

end

/-- What a record more costs the port that gets it. -/
theorem budget_addRecord_le (s : State) (p q : Port) (x : Record) : (s.addRecord p x).budget q ≤ s.budget q + if p = q then 1 else 0 := by
  have hload : ((s.addRecord p x).port q).load ≤ (s.port q).load + if p = q then 1 else 0 := by
    rw [port_addRecord]
    split
    · exact load_addRecord_le _ x
    · exact le_refl _
  show ((s.addRecord p x).port q).load + s.lockRecordsLeft q + s.fenceRecordLeft q ≤ _
  rw [State.budget]
  omega

variable (s : State)

/-- The ALERT records of an occurrence go to queues that hold none of the cause (R181). -/
theorem occurrence_spends (c : AlertCause) (p : Port) (a : Option (BitVec 32)) : Spends s (s.occurrence c p a) := by
  unfold State.occurrence
  split
  · exact .refl s
  · split
    · exact .of_same rfl rfl rfl
    · refine (Spends.of_same rfl rfl rfl : Spends s (s.setLatch c _)).trans (.mapPorts fun q => ?_)
      split
      · exact (load_addRecord_alert _ ‹_› _ _ _).le
      · exact le_refl _

/-! ### Access requests -/

theorem faultPortion_spends (p : Port) (st : Status) : Spends s (s.faultPortion p st) := .modPort (load_faultPortion_le _ st)

theorem placePortion_spends (p : Port) (t : Target) (a : Nat) : Spends s (s.placePortion p t a) :=
  (Spends.of_butArbiters (placeOp_keeps s t _)).trans (.modEngine _ p fun _ => rfl)

theorem issue_spends (p : Port) : Spends s (s.issue p) := by
  unfold State.issue
  split
  · exact faultPortion_spends s p _
  · split
    · exact faultPortion_spends s p _
    · exact placePortion_spends s p _ _
    · split
      · exact .modEngine s p fun _ => rfl
      · exact placePortion_spends s p _ _

theorem replyProbe_spends {s : State} {p : Port} (h : (s.port p).engine.current.isSome = true) (c : Current) (t : Translation) :
    Spends s (s.replyProbe p c t) := by
  unfold State.replyProbe
  exact .modPort (load_replyAccess_le _ h _ _ _ _ _ _)

theorem translated_spends (p : Port) (t : Translation) : Spends s (s.translated p t) := by
  have hinHand : Spends s (s.modEngine p fun e => { e with translation := some t }) := .modEngine s p fun _ => rfl
  simp only [State.translated]
  split
  · exact hinHand
  · rename_i c hcurrent
    split
    · exact hinHand.trans (faultPortion_spends _ p _)
    · split
      · refine hinHand.trans (replyProbe_spends ?_ _ _)
        rw [port_modEngine, if_pos rfl]
        exact Option.isSome_of_eq_some hcurrent
      · exact hinHand.trans (issue_spends _ p)

theorem lookupPortion_spends (p : Port) : Spends s (s.lookupPortion p) := by
  have hask : ∀ k write, Spends s ((s.lookup k write).2.modEngine p fun e => { e with state := .translate }) := fun k write =>
    (Spends.of_butCache (lookup_keeps s k write)).trans (.modEngine _ p fun _ => rfl)
  simp only [State.lookupPortion]
  split
  · exact (hask _ _).trans (translated_spends _ p _)
  · exact hask _ _
  · exact hask _ _

theorem startPortion_spends (p : Port) : Spends s (s.startPortion p) := by
  simp only [State.startPortion]
  split
  · exact issue_spends s p
  · split
    · exact faultPortion_spends s p _
    · split
      · exact faultPortion_spends s p _
      · exact lookupPortion_spends s p

theorem portionDone_spends (p : Port) : Spends s (s.portionDone p) := by
  simp only [State.portionDone]
  split
  · exact .refl s
  · rename_i c hcurrent
    split
    · exact (startPortion_spends _ p).after (.modEngine s p fun _ => rfl)
    · exact .modPort (load_replyAccess_le _ (Option.isSome_of_eq_some hcurrent) _ _ _ _ _ _)

theorem operationDone_spends (p : Port) (res : OpResult) : Spends s (s.operationDone p res) := by
  cases res with
  | bytes data => exact (portionDone_spends _ p).after (.modEngine s p fun _ => rfl)
  | entry | written => exact portionDone_spends s p
  | dataError => exact faultPortion_spends s p _

/-! ### Walks -/

theorem arbiterRace_spends : Spends s s.arbiterRace := .of_butArbiters (arbiterRace_keeps s)

theorem deliver_spends (o : WalkOutcome) (w : Waiter) : Spends s (s.deliver o w) := by
  unfold State.deliver
  split
  · exact faultPortion_spends s _ _
  · split
    · exact lookupPortion_spends s _
    · exact translated_spends s _ _

theorem deliverAll_spends (o : WalkOutcome) (l : List Waiter) : Spends s (State.deliverAll o l s) := by
  induction l generalizing s with
  | nil => exact .refl s
  | cons w l ih =>
      cases l with
      | nil => exact deliver_spends s o w
      | cons w' l => exact (deliver_spends s o w).trans ((arbiterRace_spends _).trans (ih _))

theorem tableErrorOccurrence_spends (o : WalkOutcome) (w : WalkSlot) : Spends s (s.tableErrorOccurrence o w) := by
  unfold State.tableErrorOccurrence
  split
  · exact occurrence_spends s _ _ _
  · exact .refl s

theorem reportWalk_spends (o : WalkOutcome) (w : WalkSlot) : Spends s (s.reportWalk o w) := by
  unfold State.reportWalk
  split
  · exact (deliverAll_spends _ o _).after ((tableErrorOccurrence_spends _ o w).after
      ((deliverAll_spends _ o _).after (.of_butArbiters (drawPick_keeps s))))
  · exact (tableErrorOccurrence_spends s o w).trans (deliverAll_spends _ o _)

theorem endWalk_spends (i : SlotId) (o : WalkOutcome) : Spends s (s.endWalk i o) := by
  have hreport := (reportWalk_spends _ o (s.slot i)).after (.of_butCache (installResult_keeps s o (s.slot i)))
  simp only [State.endWalk]
  generalize (s.installResult o (s.slot i)).reportWalk o (s.slot i) = t at hreport ⊢
  exact hreport.trans (.of_same rfl rfl rfl)

theorem placeOp_spends (t : Target) (op : MemOp) : Spends s (s.placeOp t op) := .of_butArbiters (placeOp_keeps s t op)

theorem enterPhase_spends (i : SlotId) (phase : WalkPhase) (a : Nat) : Spends s (s.enterPhase i phase a) := by
  have hphase : Spends s (s.modSlot i fun w => { w with phase, tableAddress := .ofNat 32 a }) := .of_same rfl rfl rfl
  simp only [State.enterPhase]
  split
  · exact hphase.trans (endWalk_spends _ i _)
  · exact hphase.trans (placeOp_spends _ _ _)
  · split
    · exact hphase.trans (placeOp_spends _ _ _)
    · exact hphase.trans (.of_same rfl rfl rfl)

theorem giveSlot_spends (i : SlotId) (p : Port) (k : Key) (needsModified : Bool) : Spends s (s.giveSlot i p k needsModified) := by
  simp only [State.giveSlot]
  exact (enterPhase_spends _ i _ _).after (.after (.modEngine _ p fun _ => rfl) (.of_same rfl rfl rfl))

theorem joinSlot_spends (i : SlotId) (p : Port) (needsModified : Bool) : Spends s (s.joinSlot i p needsModified) := by
  unfold State.joinSlot
  exact .after (.modEngine _ p fun _ => rfl) (.of_same rfl rfl rfl)

theorem walkerTakes_spends (p : Port) : Spends s (s.walkerTakes p) := by
  simp only [State.walkerTakes]
  split
  · exact joinSlot_spends s _ p _
  · exact giveSlot_spends s _ p _ _
  · exact .after (.modEngine _ p fun _ => rfl) (.of_same rfl rfl rfl)

theorem repeatLookup_spends (p : Port) (e : WaitEntry) : Spends s (s.repeatLookup p e) :=
  (Spends.of_butCache (lookup_keeps s e.key e.needsModified)).trans (.of_same rfl rfl rfl)

theorem answerOffer_spends (p : Port) (i : SlotId) (e : WaitEntry) (found : Lookup) : Spends s (s.answerOffer p i e found) := by
  have hleave : Spends s ((s.leaveWaitList p).withdrawOffer p) := .of_same rfl rfl rfl
  simp only [State.answerOffer]
  split
  · exact hleave.trans (translated_spends _ p _)
  · split
    · exact hleave.trans (joinSlot_spends _ _ p _)
    · exact hleave.trans (giveSlot_spends _ i p _ _)

theorem descriptorDone_spends (i : SlotId) (res : OpResult) : Spends s (s.descriptorDone i res) := by
  simp only [State.descriptorDone]
  split
  · split
    · exact endWalk_spends s i _
    · exact (enterPhase_spends _ i _ _).after (.of_same rfl rfl rfl)
  · exact endWalk_spends s i _

/-! ### The events of the targets and of the walker -/

theorem completeOp_spends {s t : State} {r : Requester} {res : OpResult} {op : MemOp} (h : s.completeOp r = some (res, op, t)) : Spends s t := by
  obtain ⟨x, _, rfl⟩ := completeOp_eq_some h
  have hdone := perform_keeps s x op
  exact (Spends.of_butArbiters (leaveArbiter_keeps _ x op)).after
    (.of_same (congrArg State.ports hdone :) (congrArg State.locks hdone :) (congrArg State.fence hdone :))

theorem dataErrorOccurrence_spends (p : Port) (res : OpResult) : Spends s (s.dataErrorOccurrence p res) := by
  cases res with
  | dataError => exact occurrence_spends s _ p _
  | bytes | entry | written => exact .refl s

theorem engineOpComplete_spends (p : Port) : Spends s (s.engineOpComplete p) := by
  simp only [State.engineOpComplete]
  split
  · rename_i res op t hop
    have hdone := completeOp_spends hop
    have herror := hdone.trans (dataErrorOccurrence_spends t p res)
    split
    · exact hdone
    · split
      · exact herror
      · exact herror.trans ((arbiterRace_spends _).trans (operationDone_spends _ p res))
  · exact .refl s

theorem replyStatus_spends {s : State} {p : Port} (h : (s.port p).engine.current.isSome = true) (tag : Tag) (st : Status) :
    Spends s (s.replyStatus p tag st) := .modPort (load_replyDone_le _ h _ _ _ _ _ _ _)

theorem leavePoolWait_spends (p : Port) : Spends s (s.leavePoolWait p) := by
  simp only [State.leavePoolWait]
  split
  · split
    · rename_i c hcurrent
      split
      · exact replyStatus_spends (Option.isSome_of_eq_some hcurrent) _ _
      · exact issue_spends s p
    · exact .refl s
  · exact .refl s

theorem leaveReadyWait_spends (i : SlotId) : Spends s (s.leaveReadyWait i) := by
  unfold State.leaveReadyWait
  split
  · exact (placeOp_spends _ _ _).after (.of_same rfl rfl rfl)
  · exact .refl s

theorem poolBecomesReady_spends : Spends s s.poolBecomesReady := by
  simp only [State.poolBecomesReady]
  split
  · split
    · exact .of_same rfl rfl rfl
    · exact (Spends.foldl leaveReadyWait_spends allSlots _).after ((Spends.foldl leavePoolWait_spends allPorts _).after (.of_same rfl rfl rfl))
  · exact .refl s

theorem disturb_spends (a : PhysAddress) : Spends s (s.disturb a) := by
  unfold State.disturb
  split
  · exact .of_same rfl rfl rfl
  · exact .refl s

theorem walkRequested_spends (p : Port) : Spends s (s.walkRequested p) := by
  unfold State.walkRequested
  split
  · exact walkerTakes_spends s p
  · exact .refl s

theorem offeredLooks_spends (p : Port) : Spends s (s.offeredLooks p) := by
  unfold State.offeredLooks
  split
  · split
    · exact repeatLookup_spends s p _
    · exact .refl s
  · exact .refl s

theorem offerAnswered_spends (p : Port) : Spends s (s.offerAnswered p) := by
  unfold State.offerAnswered
  split
  · split
    · split
      · exact .refl s
      · exact answerOffer_spends s p _ _ _
    · exact .refl s
  · exact .refl s

theorem descriptorComplete_spends (i : SlotId) : Spends s (s.descriptorComplete i) := by
  unfold State.descriptorComplete
  split
  · rename_i hop
    have hdone := completeOp_spends hop
    split
    · exact .refl s
    · split
      · exact hdone
      · exact hdone.trans ((arbiterRace_spends _).trans (descriptorDone_spends _ i _))
  · exact .refl s

theorem mapComplete_spends (i : SlotId) : Spends s (s.mapComplete i) := by
  unfold State.mapComplete
  split
  · rename_i hop
    have hdone := completeOp_spends hop
    split
    · split
      · exact .refl s
      · split
        · exact hdone
        · exact hdone.trans ((arbiterRace_spends _).trans (endWalk_spends _ i _))
    · exact .refl s
  · exact .refl s

/-! ### The lock unit -/

/-- A lock that its owner leaves: the GRANT was to come, and the owner has one record less to come (R120). -/
theorem budget_passLock_le {s : State} {n : LockId} {p : Port} (howner : (s.lock n).owner = some p) (q : Port) :
    (s.passLock n p).budget q + (if p = q then 1 else 0) ≤ s.budget q := by
  simp only [State.passLock]
  split
  · rename_i r hnext
    obtain ⟨hwaits, _⟩ := find?_ringAfter_eq_some.1 hnext
    have hlock : ((s.lock n).grantedTo r).recordsLeft q + (if r = q then 1 else 0) + (if p = q then 1 else 0) ≤ (s.lock n).recordsLeft q :=
      recordsLeft_grantedTo howner hwaits
    have hsum := lockRecordsLeft_setLock s n ((s.lock n).grantedTo r) q
    have hadd := budget_addRecord_le (s.setLock n ((s.lock n).grantedTo r)) r q (.grant n ((s.lock n).pending[r].getD 0))
    have hset : (s.setLock n ((s.lock n).grantedTo r)).budget q =
        (s.port q).load + (s.setLock n ((s.lock n).grantedTo r)).lockRecordsLeft q + s.fenceRecordLeft q := rfl
    refine (Nat.add_le_add_right hadd _).trans ?_
    rw [hset, State.budget]
    omega
  · have hsum := lockRecordsLeft_setLock s n { s.lock n with owner := none, counter := none } q
    have hlock : ({ s.lock n with owner := none, counter := none } : Lock).recordsLeft q + (if p = q then 1 else 0) = (s.lock n).recordsLeft q := by
      simp [Lock.recordsLeft, howner]
    show (s.port q).load + (s.setLock n { s.lock n with owner := none, counter := none }).lockRecordsLeft q + s.fenceRecordLeft q + _ ≤ s.budget q
    rw [State.budget]
    omega

theorem passLock_spends {s : State} {n : LockId} {p : Port} (howner : (s.lock n).owner = some p) : Spends s (s.passLock n p) :=
  ⟨fun q => (Nat.le_add_right _ _).trans (budget_passLock_le howner q)⟩

/-- LEASE_LOST is the record that the owner of a lock under a lease had to come (R124). -/
theorem losesLease_spends {s : State} {n : LockId} {p : Port} (howner : (s.lock n).owner = some p) : Spends s (s.losesLease n p) := by
  have hpassed : Spends s ((s.addRecord p (.leaseLost n)).passLock n p) := ⟨fun q => by
    have hpass := budget_passLock_le (s := s.addRecord p (.leaseLost n)) howner q
    have hadd := budget_addRecord_le s p q (.leaseLost n)
    omega⟩
  exact hpassed.trans (occurrence_spends _ _ p _)

theorem expireIfDue_spends (n : LockId) : Spends s (s.expireIfDue n) := by
  unfold State.expireIfDue
  split
  · cases howner : (s.lock n).owner with
    | none =>
        rw [expireLease_of_free howner]
        exact .refl s
    | some p =>
        rw [expireLease_of_owner howner]
        exact (losesLease_spends howner).trans (.of_same rfl rfl rfl)
  · exact .refl s

/-- A tick of the lease counters leaves owners and waiting ports (R123). -/
theorem ticked_spends : Spends s s.ticked :=
  ⟨fun p => by
    have hlocks : s.ticked.lockRecordsLeft p = s.lockRecordsLeft p := by
      simp only [lockRecordsLeft_eq, lock_ticked]
      rfl
    show (s.port p).load + s.ticked.lockRecordsLeft p + s.fenceRecordLeft p ≤ s.budget p
    rw [hlocks, State.budget]⟩

theorem leaseTick_spends : Spends s s.leaseTick := (ticked_spends s).trans (.foldl expireIfDue_spends allLocks _)

/-- A port withdrawn from a lock's pending set. -/
theorem withdrawn_spends (n : LockId) (p : Port) : Spends s (s.setLock n { s.lock n with pending := (s.lock n).pending.set p none }) :=
  .setLock fun q => by
    simp only [Lock.recordsLeft, pending_set]
    by_cases hq : p = q
    · simp [hq]
    · simp [hq]

theorem lockLeaves_spends (p : Port) (n : LockId) : Spends s (State.lockLeaves p s n) := by
  simp only [State.lockLeaves]
  split
  · exact passLock_spends ‹_›
  · split
    · exact withdrawn_spends s n p
    · exact .refl s

/-! ### Fences and resets -/

/-- With no fence, none owes a FENCE_DONE. -/
theorem endFence_spends : Spends s s.endFence :=
  ⟨fun p => by
    have hload : (s.endFence.port p).load = (s.port p).load := by
      rw [State.endFence, port_mapPorts]
      rfl
    show (s.endFence.port p).load + s.lockRecordsLeft p + 0 ≤ s.budget p
    rw [hload, State.budget]
    omega⟩

/-- A fence record that is PENDING no more, and the FENCE_DONE that its owner gets for it (R167, R168). -/
theorem fenceDone_spends {s : State} {owner : Port} {tag : Tag} {set : BitVec 8} (h : s.fence = .pending owner tag set) {fence : FenceRecord}
    (hover : ∀ p, ({ s with fence } : State).fenceRecordLeft p = 0) (outcome : FenceOutcome) :
    Spends s (({ s with fence } : State).addRecord owner (.fenceDone tag outcome)) :=
  ⟨fun p => by
    have hadd := budget_addRecord_le { s with fence } owner p (.fenceDone tag outcome)
    have howed : s.fenceRecordLeft p = if owner = p then 1 else 0 := by simp only [State.fenceRecordLeft, h]
    have hover := hover p
    have hrest : ({ s with fence } : State).budget p = (s.port p).load + s.lockRecordsLeft p + ({ s with fence } : State).fenceRecordLeft p := rfl
    have hbefore : s.budget p = (s.port p).load + s.lockRecordsLeft p + s.fenceRecordLeft p := rfl
    omega⟩

theorem fenceTest_spends : Spends s s.fenceTest := by
  unfold State.fenceTest
  split
  · rename_i hfence
    split
    · exact fenceDone_spends hfence (fun _ => rfl) _
    · exact .refl s
  · exact .refl s
  · exact .refl s

theorem fenceLeaves_spends (p : Port) : Spends s (s.fenceLeaves p) := by
  unfold State.fenceLeaves
  split
  · exact endFence_spends s
  · exact .refl s

theorem clearPort_spends (p : Port) : Spends s (s.clearPort p) := by
  have hbegin : Spends s ((s.modPort p PortRec.beginReset).walkerLeaves p) :=
    (Spends.modPort (load_beginReset_le _)).trans (.of_same rfl rfl rfl)
  simp only [State.clearPort]
  generalize (s.modPort p PortRec.beginReset).walkerLeaves p = t at hbegin ⊢
  exact (fenceLeaves_spends _ p).after ((Spends.foldl (fun u n => lockLeaves_spends u p n) allLocks _).after
    (hbegin.trans (.of_same rfl rfl rfl)))

theorem beginDeviceReset_spends : Spends s s.beginDeviceReset := by
  refine .of_loads rfl rfl fun p => ?_
  have hport : s.beginDeviceReset.port p = (s.port p).drained := port_mapPorts s (fun _ r => r.drained) p
  rw [hport]
  exact load_drained_le _

theorem beginIfAnnounced_spends (p : Port) : Spends s (s.beginIfAnnounced p) := by
  unfold State.beginIfAnnounced
  split
  · exact beginDeviceReset_spends s
  · exact .refl s

theorem finishReset_spends (p : Port) : Spends s (s.finishReset p) := by
  unfold State.finishReset
  split
  · refine .mapPorts fun q => (load_resetAnswered_le _ p).trans ?_
    split <;> exact le_refl _
  · exact .refl s

/-! ### Links, transmissions and time -/

theorem linkUpReport_spends (p : Port) : Spends s (s.linkUpReport p) :=
  .modPort <| by
    split <;> exact le_refl _

theorem linkDownReport_spends (p : Port) : Spends s (s.linkDownReport p) := by
  have hlost : Spends s (s.modPort p fun r => { r with link := .down, transmitter := none }) := .modPort (le_refl _)
  simp only [State.linkDownReport]
  split
  · exact .refl s
  · generalize (s.modPort p fun r => { r with link := .down, transmitter := none }) = t at hlost ⊢
    split
    · exact hlost
    · split
      · exact hlost.trans ((clearPort_spends t p).trans ((occurrence_spends _ _ p _).trans (beginIfAnnounced_spends _ p)))
      · exact hlost.trans (occurrence_spends t _ p _)
      · exact hlost

theorem transmissionDone_spends (p : Port) : Spends s (s.transmissionDone p) := by
  have hsent : ∀ bytes, Spends s (s.modPort p fun r => { r with transmitter := none, delivered := bytes }) := fun _ => .modPort (le_refl _)
  simp only [State.transmissionDone]
  split
  · exact .refl s
  · split
    · exact (hsent _).trans (beginDeviceReset_spends _)
    · exact hsent _

theorem reportAll_spends : Spends s s.reportAll := by
  unfold State.reportAll
  split
  · exact .refl s
  · exact .mapPorts fun p => load_report_le _

theorem reportOf_spends (who : Port → Bool) : Spends s (s.reportOf who) :=
  .mapPorts fun p => by
    split
    · exact load_report_le _
    · exact le_refl _

theorem timersTickOf_spends (who : Port → Bool) : Spends s (s.timersTickOf who) :=
  .mapPorts fun p => by
    split <;> exact le_refl _

theorem tickInOrder_spends (order : Nat) : Spends s (s.tickInOrder order) := by
  unfold State.tickInOrder
  exact (timersTickOf_spends s _).trans ((reportOf_spends _ _).trans ((leaseTick_spends _).trans
    ((reportOf_spends _ _).trans (timersTickOf_spends _ _))))

theorem tick_spends : Spends s s.tick := by
  simp only [State.tick]
  split
  · exact .of_same rfl rfl rfl
  · obtain ⟨order, free, horder⟩ := deliverTick_eq_tickInOrder { s with prescaler := 0 }
    rw [horder]
    exact (tickInOrder_spends _ order).after (.of_same rfl rfl rfl)

theorem tick_if_spends (c : Prop) [Decidable c] : Spends s (if c then s.tick else s) := by
  split
  · exact tick_spends s
  · exact .refl s

theorem clockPeriod_spends : Spends s s.clockPeriod := by
  unfold State.clockPeriod
  split
  · exact tick_spends s
  · exact .of_same rfl rfl rfl

theorem discardFrame_spends (p : Port) : Spends s (s.discardFrame p) :=
  (Spends.modPort (le_refl _)).trans (occurrence_spends _ .linkDiscard p none)

end Sys2Proof.Machine
end

section
/-! PROOFS. The bound of forty (7.1), part three: an engine takes a request only while its port has fewer than 16 records, and the receiver refuses one only while it has fewer than 24; so a LOCK, a FENCE and a refusal stay within the budget, and every step keeps it (R88, R115, R133, R161, R166). -/

namespace Sys2Proof.Machine

/-! ### The requests, at their taking -/

/-- A change that spends the budget and leaves an engine's request, then the DONE record of the request. -/
theorem Spends.replied {s t : State} {p : Port} {tag : Tag} {st : Status} (hcurrent : (s.port p).engine.current.isSome = true)
    (h : Spends s t) (hsame : (t.port p).engine.current = (s.port p).engine.current) : Spends s (t.replyStatus p tag st) :=
  h.trans (replyStatus_spends (by rw [hsame]; exact hcurrent) tag st)

theorem engine_passLock (s : State) (n : LockId) (p q : Port) : ((s.passLock n p).port q).engine = (s.port q).engine := by
  simp only [State.passLock]
  split
  · rw [port_addRecord]
    split <;> rfl
  · rfl

theorem takeLockQuery_spends (s : State) (p : Port) (tag : Tag) (number : Byte) : Spends s (s.takeLockQuery p tag number) := by
  simp only [State.takeLockQuery]
  split <;> exact .modPort (load_replyData_le _ _ _)

section
variable {s : State} {p : Port} (hcurrent : (s.port p).engine.current.isSome = true) (tag : Tag)
include hcurrent

theorem replyDone_spends (st : Status) (value : Option (BitVec 32)) (mark : DoneMark) :
    Spends s (s.modPort p fun r => r.replyDone tag st none none none value mark) := .modPort (load_replyDone_le _ hcurrent _ _ _ _ _ _ _)

theorem replyRefusal_spends (kind : Byte) (st : Status) : Spends s (s.replyRefusal p kind tag st) :=
  .modPort <| by
    split
    · exact load_replyData_le _ _ _
    · exact load_replyDone_le _ hcurrent _ _ _ _ _ _ _

theorem beginAccess_or_refused_spends (c : Prop) [Decidable c] (kind : Byte) (ops : Operands) (portions : List Portion) :
    Spends s (if c then s.beginAccess p tag ops portions else s.replyRefusal p kind tag .malformed) := by
  split
  · exact (startPortion_spends _ p).after (.modEngine_of_some hcurrent)
  · exact replyRefusal_spends hcurrent tag kind _

theorem takeUnlock_spends (number : Byte) : Spends s (s.takeUnlock p tag number) := by
  unfold State.takeUnlock
  split
  · exact replyStatus_spends hcurrent tag _
  · split
    · exact .replied hcurrent (passLock_spends ‹_›) (congrArg Engine.current (engine_passLock s _ p p))
    · exact replyStatus_spends hcurrent tag _

theorem takeLockWithdraw_spends (number : Byte) : Spends s (s.takeLockWithdraw p tag number) := by
  simp only [State.takeLockWithdraw]
  split
  · exact replyStatus_spends hcurrent tag _
  · split
    · exact .replied hcurrent (withdrawn_spends s _ p) rfl
    · exact replyStatus_spends hcurrent tag _

theorem takeSetLock_spends (number : Byte) (lease : BitVec 16) : Spends s (s.takeSetLock p tag number lease) := by
  unfold State.takeSetLock
  split
  · exact replyStatus_spends hcurrent tag _
  · split
    · exact replyStatus_spends hcurrent tag _
    · exact .replied hcurrent (.setLock fun q => le_refl _) rfl

theorem takeSetAnchor_spends (space : Byte) (base : BitVec 32) (length : BitVec 16) (mask : BitVec 8) :
    Spends s (s.takeSetAnchor p tag space base length mask) := by
  unfold State.takeSetAnchor
  split
  · exact replyStatus_spends hcurrent tag _
  · split
    · exact .replied hcurrent (.of_same rfl rfl rfl) rfl
    · exact replyStatus_spends hcurrent tag _

theorem takePurge_spends (scope space : Byte) (segment page : BitVec 16) : Spends s (s.takePurge p tag scope space segment page) := by
  unfold State.takePurge
  split
  · exact replyStatus_spends hcurrent tag _
  · exact (Spends.of_same rfl rfl rfl : Spends s (s.purge _)).trans (replyDone_spends (s := s.purge _) hcurrent tag _ _ _)

theorem takeSetWindow_spends (window kind : Byte) (base limit target : BitVec 16) :
    Spends s (s.takeSetWindow p tag window kind base limit target) := by
  unfold State.takeSetWindow
  split
  · split
    · exact replyStatus_spends hcurrent tag _
    · exact .replied hcurrent (.of_same rfl rfl rfl) rfl
  · exact replyStatus_spends hcurrent tag _

theorem takeSetPool_spends (size : BitVec 16) : Spends s (s.takeSetPool p tag size) := by
  unfold State.takeSetPool
  split
  · exact replyStatus_spends hcurrent tag _
  · split
    · exact replyStatus_spends hcurrent tag _
    · exact (Spends.modEngine_of_some (by exact hcurrent)).after (.of_same rfl rfl rfl)

theorem takeSetPort_spends (port cls c h : Byte) (t : BitVec 16) : Spends s (s.takeSetPort p tag port cls c h t) := by
  unfold State.takeSetPort
  split
  · split
    · exact replyStatus_spends hcurrent tag _
    · split
      · exact replyStatus_spends hcurrent tag _
      · refine .replied hcurrent (.modPort (le_of_eq (load_congr rfl rfl))) ?_
        rw [port_modPort]
        split <;> rfl
  · exact replyStatus_spends hcurrent tag _

theorem takeUnfence_spends : Spends s (s.takeUnfence p tag) := by
  unfold State.takeUnfence
  split
  · exact replyStatus_spends hcurrent tag _
  · rename_i hfence
    have hdone := fenceDone_spends hfence (fence := .none) (fun _ => rfl) .cancelled
    refine .replied hcurrent (hdone.trans (.of_loads rfl rfl fun q => ?_)) ?_
    · rw [State.endFence, port_mapPorts]
      exact le_refl _
    · rw [State.endFence, port_mapPorts]
      show ((s.addRecord _ _).port p).engine.current = _
      rw [port_addRecord]
      split <;> rfl
  · exact .replied hcurrent (endFence_spends s) (by rw [State.endFence, port_mapPorts]; rfl)

theorem takePortReset_spends (port : Byte) : Spends s (s.takePortReset p tag port) := by
  have hwaiting : Spends s (s.modEngine p fun _ => { Engine.idle with state := .memory, current := some ⟨tag, .portReset port⟩ }) :=
    .modEngine_of_some hcurrent
  simp only [State.takePortReset]
  split
  · exact replyStatus_spends hcurrent tag _
  · split
    · exact replyStatus_spends hcurrent tag _
    · split
      · exact replyStatus_spends hcurrent tag _
      · exact hwaiting.trans ((clearPort_spends _ _).trans (beginIfAnnounced_spends _ _))
      · exact hwaiting

theorem takeSetTimebase_spends (divide : BitVec 16) : Spends s (s.takeSetTimebase p tag divide) := by
  unfold State.takeSetTimebase
  split
  · exact replyStatus_spends hcurrent tag _
  · exact .replied hcurrent (.of_same rfl rfl rfl) rfl

theorem takeCounters_spends (clear : Byte) : Spends s (s.takeCounters p tag clear) := by
  have hclear : Spends s s.clearCounters := .of_loads rfl rfl fun q => by
    rw [State.clearCounters, port_mapPorts]
    rfl
  unfold State.takeCounters
  split
  · exact replyRefusal_spends hcurrent tag _ _
  · split
    · exact hclear.trans (.modPort (load_replyData_le _ _ _))
    · exact .modPort (load_replyData_le _ _ _)

theorem takeAlertClear_spends (cause : Byte) : Spends s (s.takeAlertClear p tag cause) := by
  unfold State.takeAlertClear
  split
  · exact replyStatus_spends hcurrent tag _
  · exact (Spends.of_same rfl rfl rfl : Spends s (s.setLatch _ _)).trans (replyDone_spends (s := s.setLatch _ _) hcurrent tag _ _ _)

theorem takeDeviceReset_spends : Spends s (s.takeDeviceReset p tag) := by
  unfold State.takeDeviceReset
  split
  · exact (Spends.of_same rfl rfl rfl : Spends s { s with deviceReset := .announced p }).trans
      (replyDone_spends (s := { s with deviceReset := .announced p }) hcurrent tag _ _ _)
  · exact replyDone_spends hcurrent tag _ _ _
  · exact .refl s

end

/-! ### What raises a budget: a port with few records -/

section
variable {s : State} {p : Port}

/-- Where every other port spends its budget, one with at most 24 records stays within its own (7.1). -/
theorem queueBudget_of_room {t : State} (hlaw : t.LocksLawful) (hb : s.QueueBudget) (hlength : (t.port p).completionQueue.length ≤ 24)
    (hothers : ∀ q, q ≠ p → t.budget q ≤ s.budget q) : t.QueueBudget := by
  rw [queueBudget_iff] at hb ⊢
  intro q
  by_cases hq : q = p
  · subst hq
    exact budget_le_of_length hlaw hlength
  · exact (hothers q hq).trans (hb q)

theorem budget_modPort_of_ne {q : Port} (h : q ≠ p) (f : PortRec → PortRec) : (s.modPort p f).budget q = s.budget q := by
  show ((s.modPort p f).port q).load + s.lockRecordsLeft q + s.fenceRecordLeft q = s.budget q
  rw [port_modPort_of_ne s (Ne.symm h)]
  rfl

theorem length_replyStatus (tag : Tag) (st : Status) :
    ((s.replyStatus p tag st).port p).completionQueue.length = (s.port p).completionQueue.length + 1 := by
  have hqueue : ((s.replyStatus p tag st).port p).completionQueue = (s.port p).completionQueue ++ [.done tag st none none none none .plain] := by
    rw [State.replyStatus, port_modPort_self]
    exact completionQueue_countReply _ _
  rw [hqueue, List.length_append, List.length_singleton]

/-- A LOCK that takes a lock or waits for it: only its own port has more records to come (R115). -/
theorem lockTaken_queueBudget {n : LockId} {l : Lock} {tag : Tag} {st : Status} (hlaw : ((s.setLock n l).replyStatus p tag st).LocksLawful)
    (hb : s.QueueBudget) (hlength : (s.port p).completionQueue.length < 16)
    (hothers : ∀ q, q ≠ p → l.recordsLeft q ≤ (s.lock n).recordsLeft q) : ((s.setLock n l).replyStatus p tag st).QueueBudget := by
  refine queueBudget_of_room (p := p) hlaw hb ?_ fun q hq => ?_
  · rw [length_replyStatus, port_setLock]
    omega
  · have hsum := lockRecordsLeft_setLock s n l q
    have hlock := hothers q hq
    rw [State.replyStatus, budget_modPort_of_ne hq]
    show (s.port q).load + (s.setLock n l).lockRecordsLeft q + s.fenceRecordLeft q ≤ s.budget q
    rw [State.budget]
    omega

section
variable (hlaw : s.LocksLawful) (hb : s.QueueBudget) (hlength : (s.port p).completionQueue.length < 16)
  (hcurrent : (s.port p).engine.current.isSome = true) (tag : Tag)
include hlaw hb hlength hcurrent

theorem takeLock_queueBudget (number : Byte) : (s.takeLock p tag number).QueueBudget := by
  have hreply : ∀ st, (s.replyStatus p tag st).QueueBudget := fun st => queueBudget_of_spends (replyStatus_spends hcurrent tag st) hb
  have htaken := locksLawful_takeLock hlaw p tag number
  revert htaken
  simp only [State.takeLock]
  split
  · exact fun _ => hreply _
  · rename_i n _
    split
    · exact fun _ => hreply _
    · split
      · exact fun _ => hreply _
      · split
        · rename_i hfree
          refine fun htaken => lockTaken_queueBudget htaken hb hlength fun q hq => ?_
          simp [Lock.recordsLeft, hfree, Ne.symm hq]
        · refine fun htaken => lockTaken_queueBudget htaken hb hlength fun q hq => ?_
          simp only [Lock.recordsLeft, pending_set, if_neg (Ne.symm hq), le_refl]

/-- A FENCE that is taken owes its own port alone a FENCE_DONE (R166). -/
theorem takeFence_queueBudget (set : BitVec 8) : (s.takeFence p tag set).QueueBudget := by
  have hreply : ∀ st, (s.replyStatus p tag st).QueueBudget := fun st => queueBudget_of_spends (replyStatus_spends hcurrent tag st) hb
  have htaken := hlaw.of_locks (locks_takeFence s p tag set)
  revert htaken
  unfold State.takeFence
  split
  · exact fun _ => hreply _
  · split
    · exact fun _ => hreply _
    · split
      · exact fun _ => hreply _
      · refine fun htaken => queueBudget_of_room (p := p) htaken hb ?_ fun q hq => ?_
        · rw [length_replyStatus, port_mapPorts]
          exact Nat.succ_le_of_lt (hlength.trans (by omega))
        · have hnone : ({ s with fence := .pending p tag set } : State).fenceRecordLeft q = 0 := if_neg (Ne.symm hq)
          rw [State.replyStatus, budget_modPort_of_ne hq]
          refine ((Spends.mapPorts fun _ => le_of_eq (load_congr rfl rfl)).budget q).trans ?_
          show (s.port q).load + s.lockRecordsLeft q + ({ s with fence := .pending p tag set } : State).fenceRecordLeft q ≤ _
          rw [hnone]
          exact Nat.add_le_add_left (Nat.zero_le _) _

/-- The carrying out of a request taken (R88, R90). -/
theorem carryOut_queueBudget (ops : Operands) : (s.carryOut p tag ops).QueueBudget := by
  have hspent : ∀ {t : State}, Spends s t → t.QueueBudget := fun h => queueBudget_of_spends h hb
  cases ops with
  | read | write | probe | physRead | physWrite => exact hspent (beginAccess_or_refused_spends hcurrent tag _ _ _ _)
  | lock => exact takeLock_queueBudget hlaw hb hlength hcurrent tag _
  | unlock => exact hspent (takeUnlock_spends hcurrent tag _)
  | lockWithdraw => exact hspent (takeLockWithdraw_spends hcurrent tag _)
  | lockQuery => exact hspent (takeLockQuery_spends s p tag _)
  | setLock => exact hspent (takeSetLock_spends hcurrent tag _ _)
  | setAnchor => exact hspent (takeSetAnchor_spends hcurrent tag _ _ _ _)
  | purge => exact hspent (takePurge_spends hcurrent tag _ _ _ _)
  | setWindow => exact hspent (takeSetWindow_spends hcurrent tag _ _ _ _ _)
  | setPool => exact hspent (takeSetPool_spends hcurrent tag _)
  | setPort => exact hspent (takeSetPort_spends hcurrent tag _ _ _ _ _)
  | fence => exact takeFence_queueBudget hlaw hb hlength hcurrent tag _
  | unfence => exact hspent (takeUnfence_spends hcurrent tag)
  | portReset => exact hspent (takePortReset_spends hcurrent tag _)
  | setTimebase => exact hspent (takeSetTimebase_spends hcurrent tag _)
  | counters => exact hspent (takeCounters_spends hcurrent tag _)
  | alertClear => exact hspent (takeAlertClear_spends hcurrent tag _)
  | deviceReset => exact hspent (takeDeviceReset_spends hcurrent tag)
  | malformed => exact hspent (replyRefusal_spends hcurrent tag _ _)

theorem examine_queueBudget (r : Request) : (s.examine p r).QueueBudget := by
  unfold State.examine
  split
  · exact queueBudget_of_spends (replyRefusal_spends hcurrent _ _ _) hb
  · split
    · exact queueBudget_of_spends (replyRefusal_spends hcurrent _ _ _) hb
    · exact carryOut_queueBudget hlaw hb hlength hcurrent _ _

end

/-- An engine that may take has a port with fewer than 16 records (R88). -/
theorem length_of_canTake (h : s.canTake p = true) : (s.port p).completionQueue.length < 16 := by
  simp only [State.canTake, PortRec.mayTake, Bool.and_eq_true, decide_eq_true_eq] at h
  obtain ⟨⟨_, hlength⟩, _⟩ := h
  exact hlength

/-- The taking of a request by an engine that may take it. -/
theorem takeRequest_queueBudget (hlaw : s.LocksLawful) (hb : s.QueueBudget) (hcan : s.canTake p = true) : (s.takeRequest p).QueueBudget := by
  have hlength := length_of_canTake hcan
  unfold State.takeRequest
  split
  · exact hb
  · rename_i r rest _
    refine examine_queueBudget (hlaw.modPort p _) ?_ (by rw [port_modPort_self]; exact hlength) (by rw [port_modPort_self]; rfl) r
    refine queueBudget_of_room (p := p) (hlaw.modPort p _) hb ?_ fun q hq => (budget_modPort_of_ne hq _).le
    rw [port_modPort_self]
    exact (hlength.trans (by omega)).le

end

/-! ### The laws and the budget along an event -/

/-- The laws of the locks and the budget of every port. -/
structure State.WithinBudget (s : State) : Prop where
  locks : s.LocksLawful
  budget : s.QueueBudget

section
variable {s : State}

theorem withinBudget_of_spends {t : State} (hs : s.WithinBudget) (hlaw : t.LocksLawful) (h : Spends s t) : t.WithinBudget :=
  ⟨hlaw, queueBudget_of_spends h hs.budget⟩

/-- A part whose ports and locks have their power-on values is within its budget. -/
theorem queueBudget_of_empty (hlaw : s.LocksLawful) (hempty : ∀ p, (s.port p).completionQueue = []) : s.QueueBudget :=
  (queueBudget_iff s).2 fun p => budget_le_of_length hlaw (by rw [hempty]; exact Nat.zero_le _)

theorem withinBudget_tryEndDeviceReset (hs : s.WithinBudget) : s.tryEndDeviceReset.WithinBudget := by
  refine ⟨locksLawful_tryEndDeviceReset hs.locks, ?_⟩
  unfold State.tryEndDeviceReset
  split
  · split
    · refine queueBudget_of_empty (locksLawful_of_powerOn rfl) fun p => ?_
      have hport : s.endDeviceReset.port p = (s.port p).afterDeviceReset p := port_mapPorts s _ p
      rw [hport]
      rfl
    · refine queueBudget_of_spends ((Spends.of_butArbiters (restArbiters_keeps s)).trans ?_) hs.budget
      unfold State.restWalker
      split
      · exact .refl _
      · exact .of_same rfl rfl rfl
  · exact hs.budget

theorem withinBudget_housekeep (hs : s.WithinBudget) : s.housekeep.WithinBudget := by
  refine ⟨locksLawful_housekeep hs.locks, ?_⟩
  have hresets := queueBudget_of_spends (Spends.foldl (fun u p => finishReset_spends u p) allPorts _) (withinBudget_tryEndDeviceReset hs).budget
  simp only [State.housekeep]
  split
  · exact hresets
  · exact queueBudget_of_spends ((Spends.of_butWalker (offerSlots_keeps _)).trans (fenceTest_spends _)) hresets

/-- Neither the arbiters nor the count of free values are part of a budget. -/
theorem withinBudget_of_butArbiters {t : State} (hs : s.WithinBudget) (h : t.butArbiters = s.butArbiters) : t.WithinBudget :=
  withinBudget_of_spends hs (locksLawful_of_butTraffic (butTraffic_of_butArbiters h) hs.locks) (.of_butArbiters h)

theorem withinBudget_reportAll (hs : s.WithinBudget) : s.reportAll.WithinBudget :=
  withinBudget_of_spends hs (locksLawful_of_butTraffic (butTraffic_of_butPorts (reportAll_keeps s)) hs.locks) (reportAll_spends s)

theorem withinBudget_beforeTaking (hs : s.WithinBudget) : s.beforeTaking.WithinBudget := by
  unfold State.beforeTaking
  split
  · exact withinBudget_of_butArbiters (withinBudget_reportAll hs) (arbitersTake_keeps _)
  · exact withinBudget_of_butArbiters (withinBudget_reportAll hs) (arbiterRace_keeps _)

theorem withinBudget_dispatchWork (hs : s.WithinBudget) : s.dispatchWork.WithinBudget :=
  withinBudget_of_butArbiters (withinBudget_reportAll hs) (arbitersTake_keeps _)

/-- The next taking is one that R88 allows. -/
theorem withinBudget_nextTaking {q : Port} {rest : List Port} (hs : s.WithinBudget) (htakers : s.takers = q :: rest) :
    ((s.drawPort q rest).2.takeRequest (s.drawPort q rest).1).WithinBudget := by
  have hdraw := drawPort_keeps s q rest
  have hcan : (s.drawPort q rest).2.canTake (s.drawPort q rest).1 = true := by
    refine mem_takers.1 ?_
    rw [takers_of_butArbiters hdraw, htakers]
    exact drawPort_mem s q rest
  have hdrawn := withinBudget_of_butArbiters hs hdraw
  exact ⟨locksLawful_takeRequest hdrawn.locks _, takeRequest_queueBudget hdrawn.locks hdrawn.budget hcan⟩

theorem withinBudget_settle (n : Nat) (s : State) (hs : s.WithinBudget) : (State.settle n s).WithinBudget := by
  induction n generalizing s with
  | zero => exact withinBudget_dispatchWork (withinBudget_housekeep hs)
  | succ n ih =>
      have hbefore := withinBudget_beforeTaking (withinBudget_housekeep hs)
      rw [State.settle]
      generalize s.housekeep.beforeTaking = t at hbefore ⊢
      unfold State.thenTake
      split
      · exact hbefore
      · exact ih _ (withinBudget_nextTaking hbefore ‹_›)

/-! ### Frames -/

/-- A request that is refused finds fewer than 24 records before it (R161). -/
theorem admitRequest_queueBudget (hs : s.WithinBudget) (p : Port) (r : Request) : (s.admitRequest p r).QueueBudget := by
  unfold State.admitRequest
  split
  · exact queueBudget_of_spends (.modPort (le_of_eq (load_congr rfl rfl))) hs.budget
  · split
    · rename_i hroom
      refine queueBudget_of_room (p := p) (hs.locks.of_locks rfl) hs.budget ?_ fun q hq => (budget_modPort_of_ne hq _).le
      rw [port_addRecord, if_pos rfl, PortRec.addRecord, List.length_append]
      exact Nat.succ_le_of_lt hroom
    · exact queueBudget_of_spends (.trans (.modPort (le_of_eq (load_congr rfl rfl))) (occurrence_spends _ _ p _)) hs.budget

theorem acceptFrame_queueBudget (hs : s.WithinBudget) (p : Port) (r : Request) : (s.acceptFrame p r).QueueBudget := by
  unfold State.acceptFrame
  split
  · exact queueBudget_of_spends (.modPort (le_of_eq (load_congr rfl rfl))) hs.budget
  · exact admitRequest_queueBudget hs p r

theorem arrive_queueBudget (hs : s.WithinBudget) (p : Port) (r : Request) : (s.arrive p r).QueueBudget := by
  unfold State.arrive
  split
  · split
    · exact queueBudget_of_spends (discardFrame_spends s p) hs.budget
    · exact acceptFrame_queueBudget hs p r
  · exact hs.budget

theorem arriveBytes_queueBudget (hs : s.WithinBudget) (p : Port) (bytes : List Byte) : (s.arriveBytes p bytes).QueueBudget := by
  unfold State.arriveBytes
  split
  · split
    · exact acceptFrame_queueBudget hs p _
    · exact queueBudget_of_spends (discardFrame_spends s p) hs.budget
  · exact hs.budget

end

/-! ### Every step -/

section
variable {s t : State}

theorem event_withinBudget {effect : State → State} (h : s.event effect = .next t) (hs : s.WithinBudget) (hlaw : (effect s).LocksLawful)
    (hb : (effect s).QueueBudget) : t.WithinBudget := event_keeps h hs ⟨hlaw, hb⟩ fun u hu => withinBudget_settle _ u hu

/-- An event whose effect spends the budget. -/
theorem event_withinBudget_of_spends {effect : State → State} (h : s.event effect = .next t) (hs : s.WithinBudget)
    (hlaw : (effect s).LocksLawful) (he : Spends s (effect s)) : t.WithinBudget :=
  event_withinBudget h hs hlaw (queueBudget_of_spends he hs.budget)

/-- An event whose effect is the progress of memory operations and walks. -/
theorem event_withinBudget_of_butTraffic {effect : State → State} (h : s.event effect = .next t) (hs : s.WithinBudget)
    (hsame : (effect s).butTraffic = s.butTraffic) (he : Spends s (effect s)) : t.WithinBudget :=
  event_withinBudget_of_spends h hs (locksLawful_of_butTraffic hsame hs.locks) he

theorem requestEvent_withinBudget {i : Instr} (h : s.requestEvent i = .next t) (hs : s.WithinBudget) : t.WithinBudget := by
  unfold State.requestEvent at h
  split at h
  · exact event_withinBudget h hs (locksLawful_of_butTraffic (butTraffic_of_butLatches (arrive_keeps s _ _)) hs.locks)
      (arrive_queueBudget hs _ _)
  · cases h
    exact hs

theorem started_spends (s : State) : Spends s s.started :=
  Spends.after (.foldl (fun u p => by
    unfold State.startUpReport
    split
    · exact linkUpReport_spends u p
    · exact .refl u) allPorts _) (.of_same rfl rfl rfl)

/-- Every command keeps every port within its budget. -/
theorem exec_queueBudget {c : Instr} (h : exec c s = .next t) (hs : s.WithinBudget) : t.QueueBudget := by
  cases c with
  | powerOnResetAssert =>
      cases h
      exact queueBudget_of_spends (Spends.after (.mapPorts fun p => le_of_eq (load_congr rfl rfl)) (.of_same rfl rfl rfl)) hs.budget
  | powerOnResetRelease =>
      cases h
      split
      · exact queueBudget_of_empty (locksLawful_of_powerOn rfl) fun p => by fin_cases p <;> rfl
      · exact hs.budget
  | startUpEnd =>
      cases h
      split
      · exact queueBudget_of_spends (started_spends s) hs.budget
      · exact hs.budget
  | linkUp p =>
      simp only [exec, execLinkUp] at h
      split at h
      · cases h
        exact queueBudget_of_spends (.modPort (le_of_eq (load_congr rfl rfl))) hs.budget
      · exact (event_withinBudget_of_spends h hs (hs.locks.of_locks rfl) (linkUpReport_spends s p)).budget
  | linkDown p =>
      simp only [exec, execLinkDown] at h
      split at h
      · cases h
        exact queueBudget_of_spends (.modPort (le_of_eq (load_congr rfl rfl))) hs.budget
      · exact (event_withinBudget_of_spends h hs (locksLawful_linkDownReport hs.locks p) (linkDownReport_spends s p)).budget
  | requestAdmission p frame =>
      exact (event_withinBudget (effect := fun u => u.arriveBytes p frame) h hs
        (locksLawful_of_butTraffic (butTraffic_of_butLatches (arriveBytes_keeps s p frame)) hs.locks) (arriveBytes_queueBudget hs p frame)).budget
  | batchAck | malformedRequest | read | write | probe | physRead | physWrite | lock | unlock | lockWithdraw | lockQuery | setLock
  | setAnchor | purge | setWindow | setPool | setPort | fence | unfence | portReset | setTimebase | counters | alertClear
  | deviceReset => exact (requestEvent_withinBudget ((exec_eq_requestEvent rfl s).symm.trans h) hs).budget
  | walkRequest p =>
      exact (event_withinBudget_of_butTraffic (effect := fun u => u.walkRequested p) h hs (walkRequested_butTraffic s p)
        (walkRequested_spends s p)).budget
  | offeredLookup p =>
      exact (event_withinBudget_of_butTraffic (effect := fun u => u.offeredLooks p) h hs (offeredLooks_butTraffic s p)
        (offeredLooks_spends s p)).budget
  | offerAnswer p =>
      exact (event_withinBudget_of_butTraffic (effect := fun u => u.offerAnswered p) h hs (offerAnswered_butTraffic s p)
        (offerAnswered_spends s p)).budget
  | descriptorReadComplete i =>
      exact (event_withinBudget_of_butTraffic (effect := fun u => u.descriptorComplete i) h hs (descriptorComplete_butTraffic s i)
        (descriptorComplete_spends s i)).budget
  | mapUpdateComplete i =>
      exact (event_withinBudget_of_butTraffic (effect := fun u => u.mapComplete i) h hs (mapComplete_butTraffic s i)
        (mapComplete_spends s i)).budget
  | memoryOperationComplete p =>
      exact (event_withinBudget_of_butTraffic (effect := fun u => u.engineOpComplete p) h hs (engineOpComplete_butTraffic s p)
        (engineOpComplete_spends s p)).budget
  | poolReady =>
      exact (event_withinBudget_of_butTraffic (effect := fun u => u.poolBecomesReady) h hs (poolBecomesReady_butTraffic s)
        (poolBecomesReady_spends s)).budget
  | byteDisturbance a =>
      exact (event_withinBudget_of_butTraffic (effect := fun u => u.disturb a) h hs (disturb_butTraffic s a) (disturb_spends s a)).budget
  | timebaseTick =>
      exact (event_withinBudget_of_spends (effect := fun u => if u.tickDue then u.tick else u) h hs (locksLawful_tick_if _ hs.locks)
        (tick_if_spends s _)).budget
  | leaseExpiry n =>
      exact (event_withinBudget_of_spends (effect := fun u => if u.tickTaken && (u.lock n).expiresNext then u.tick else u) h hs
        (locksLawful_tick_if _ hs.locks) (tick_if_spends s _)).budget
  | coalescingTimerExpiry p =>
      exact (event_withinBudget_of_spends (effect := fun u => if u.tickTaken && (u.port p).timer.expiresNext then u.tick else u) h hs
        (locksLawful_tick_if _ hs.locks) (tick_if_spends s _)).budget
  | transmissionComplete p =>
      exact (event_withinBudget_of_spends (effect := fun u => u.transmissionDone p) h hs (hs.locks.of_locks (locks_transmissionDone s p))
        (transmissionDone_spends s p)).budget
  | referenceClockPeriod =>
      exact (event_withinBudget_of_spends (effect := fun u => u.clockPeriod) h hs (locksLawful_clockPeriod hs.locks) (clockPeriod_spends s)).budget

end

/-- Settles O58: the front command keeps the budget, idling leaves it, and a queue is part of its port's budget. -/
theorem queuesHoldAtMostForty : Obligations.QueuesHoldAtMostForty := by
  refine ⟨fun s t hlocks hholdings hbudget h => ?_, fun s hbudget p => ?_⟩
  · unfold step at h
    split at h
    · cases h
      exact hbudget
    · exact exec_queueBudget h ⟨⟨hlocks, hholdings⟩, hbudget⟩
  · have hport := hbudget p
    omega

end Sys2Proof.Machine
end

section
/-! PROOFS. Events at a part at rest in which no request waits: a BATCH_ACK, the completion of a transmission, the expiry of a coalescing timer (R138, R142, R144, R148, R149, R167). -/

namespace Sys2Proof.Machine

/-! ### Events at which no request waits -/

section
variable {s t : State}

/-- With no request waiting, what follows an event's effect is housekeeping and the dispatch of work (R88). -/
theorem event_of_no_requests {effect : State → State} (hpower : s.power = .operating) (he : effect s = t)
    (hqueue : ∀ q : Port, (t.port q).requestQueue = []) : s.event effect = .next t.housekeep.dispatchWork := by
  have hnone : t.queuedRequests = 0 := queuedRequests_single (p := 0) (by rw [hqueue]; rfl) fun q _ => hqueue q
  rw [event_of_operating hpower he, hnone]
  rfl

/-- t follows a state s at rest, with no device reset in progress, by a change of ports' records and of the fence record alone, no port having changed its state. -/
structure StirsFence (s t : State) : Prop where
  rest : s.AtRest
  operating : s.draining = false
  same : { t with fence := s.fence }.butPorts = s.butPorts
  states : ∀ q : Port, (t.port q).state = (s.port q).state

/-- What follows is the idle test of the fence and the transmitters' choice (R148, R167). -/
theorem StirsFence.dispatchWork (h : StirsFence s t) : t.housekeep.dispatchWork = t.fenceTest.reportAll := by
  obtain ⟨_, hnear, hext, hwork, _⟩ := h.rest
  obtain ⟨_, hreset, hoffer, _⟩ := hwork h.operating
  have hdrain : t.draining = false := (congrArg State.draining h.same :).trans h.operating
  have hop : ∀ r, t.hasOp r = s.hasOp r := fun r => (congrArg (fun u : State => u.hasOp r) h.same :)
  have hslot : ∀ i, t.slot i = s.slot i := fun i => (congrArg (fun u : State => u.slot i) h.same :)
  have hnext : t.nextOffered = s.nextOffered := (congrArg State.nextOffered h.same :)
  have htest : t.housekeep = t.fenceTest := by
    refine housekeep_eq_fenceTest hdrain (fun q hq => ?_) fun i => ?_
    · rw [h.states] at hq
      rw [hop, hreset q hq]
    · rw [hslot, hnext]
      exact hoffer i
  have hready : ∀ x, t.fenceTest.reportAll.arbiterReady x = s.arbiterReady x := fun x =>
    ((congrArg (fun u : State => u.arbiterReady x) (reportAll_keeps t.fenceTest) :).trans
      (congrArg (fun u : State => u.arbiterReady x) (fenceTest_butPorts t) :)).trans (congrArg (fun u : State => u.arbiterReady x) h.same :)
  rw [htest, State.dispatchWork]
  exact arbitersTake_of_not_ready ((hready .near).trans hnear) ((hready .external).trans hext)

end

/-! ### BATCH_ACK -/

/-- The BATCH_ACK command at an ACTIVE port reaches its reporting unit (R144, R160). -/
theorem arrive_batchAck {s : State} {p : Port} (hdrain : s.draining = false) (hactive : (s.port p).state = .active) (tag : Tag) :
    s.arrive p ⟨batchAckKind, tag, []⟩ = s.modPort p PortRec.acknowledge := by
  rw [State.arrive, if_pos (receives_of_active hdrain hactive)]
  rfl

/-- In NORMAL there is nothing to acknowledge (R144). -/
theorem acknowledge_of_normal {r : PortRec} (h : r.wake = .normal) : r.acknowledge = r := by
  rw [PortRec.acknowledge, ← h]

theorem exec_batchAck {s : State} {p : Port} (h : s.Quiet) (hactive : (s.port p).state = .active) (tag : Tag) :
    exec (.batchAck p tag) s = .next (s.modPort p fun r => r.acknowledge.report) := by
  obtain ⟨hpower, hdrain, hrest, hqueue⟩ := h
  have hstirs : StirsPorts s (s.modPort p PortRec.acknowledge) := .modPort hrest hdrain rfl id
  have hevent := event_of_no_requests (effect := fun u => u.arrive p ⟨batchAckKind, tag, []⟩) hpower (arrive_batchAck hdrain hactive tag)
    fun q => by
      rw [port_modPort]
      split <;> exact hqueue q
  rw [exec_eq_requestEvent rfl]
  refine hevent.trans ?_
  rw [hstirs.dispatchWork, reportAll_modPort hrest hdrain]

/-- Settles O8: the acknowledgement and the choice that follows it; in NORMAL neither changes anything. -/
theorem batchAckMakesTheStateNormal : Obligations.BatchAckMakesTheStateNormal := by
  intro s p tag hquiet hactive
  obtain ⟨_, hdrain, hrest, _⟩ := id hquiet
  refine ⟨exec_batchAck hquiet hactive tag, fun hnormal => ?_⟩
  have hsame : ((s.port p).acknowledge).report = s.port p := by
    rw [acknowledge_of_normal hnormal, PortRec.report_of_not_canTransmit (canTransmit_of_atRest hrest hdrain p)]
  have hnothing : (s.modPort p fun r => r.acknowledge.report) = s := by
    rw [State.modPort, hsame]
    exact modPort_id s p
  rw [exec_batchAck hquiet hactive, hnothing]

/-! ### The completion of a transmission -/

/-- The completion of a transmission that begins no device reset delivers its frame (R149, R185). -/
theorem transmissionDone_of_plain {s : State} {p : Port} {f : OutFrame} (hsends : (s.port p).transmitter = some f)
    (hplain : ¬(f.announcesReset = true ∧ s.deviceReset = .announced p)) : s.transmissionDone p = s.delivers p f := by
  simp only [State.transmissionDone, hsends]
  refine if_neg ?_
  simpa using hplain

/-- Settles O9: the delivery, the idle test of the fence and the transmitters' choice; with no transmission, no event. -/
theorem transmissionCompleteFreesTheTransmitter : Obligations.TransmissionCompleteFreesTheTransmitter := by
  intro s p hquiet
  obtain ⟨hpower, hdrain, hrest, hqueue⟩ := hquiet
  refine ⟨fun f hsends hplain => ?_, fun hfree => ?_⟩
  · have hstirs : StirsFence s (s.delivers p f) := ⟨hrest, hdrain, rfl, fun q => by
      rw [State.delivers, port_modPort]
      split <;> rfl⟩
    refine (event_of_no_requests (effect := fun u => u.transmissionDone p) hpower (transmissionDone_of_plain hsends hplain) fun q => ?_).trans ?_
    · rw [State.delivers, port_modPort]
      split <;> exact hqueue q
    · rw [hstirs.dispatchWork]
      rfl
  · refine event_of_atRest (effect := fun u => u.transmissionDone p) hpower ?_ hrest
    simp only [State.transmissionDone, hfree]

/-! ### The expiry of a coalescing timer -/

/-- Settles O52: the tick and the transmitters' choice, port by port; and at a period without a tick, or a timer not at 1, no event. -/
theorem timersExpire : Obligations.TimersExpire := by
  intro s p hquiet
  obtain ⟨hpower, hdrain, hrest, _⟩ := id hquiet
  refine ⟨fun hdue htimer hleases => ?_, fun hnone => exec_coalescingTimerExpiry_of_none hpower hrest ?_⟩
  · have htaken : (s.tickTaken && (s.port p).timer.expiresNext) = true := by
      simp [State.tickTaken, tickDue_of_le hdue, hdrain, Timer.expiresNext, htimer]
    have hexec : exec (.coalescingTimerExpiry p) s = .next ({ s with prescaler := 0 } : State).ticked.timersTick.reportAll :=
      (event_of_operating (effect := fun u => if u.tickTaken && (u.port p).timer.expiresNext then u.tick else u) hpower
        (if_pos htaken)).trans (congrArg _ (tick_settled_of_no_expiry hquiet hleases _))
    have hport : ∀ q, ({ s with prescaler := 0 } : State).ticked.timersTick.reportAll.port q =
        ({ s.port q with timer := (s.port q).timer.tick } : PortRec).report := fun q =>
      (port_reportAll (s := ({ s with prescaler := 0 } : State).ticked.timersTick) hdrain q).trans
        (congrArg PortRec.report (port_mapPorts _ _ q))
    have hframe := reportAll_keeps ({ s with prescaler := 0 } : State).ticked.timersTick
    generalize ({ s with prescaler := 0 } : State).ticked.timersTick.reportAll = u at hexec hport hframe
    refine ⟨u, hexec, ?_, fun q k hk hlong => ?_, fun n => ?_, ?_⟩
    · rw [hport, htimer]
      rfl
    · have hruns : (s.port q).timer ≠ .running 1 ∧ (s.port q).timer ≠ .running 0 := by
        rw [hk, Ne, Ne, Timer.running.injEq, Timer.running.injEq]
        omega
      rw [hport, PortRec.report_of_not_canTransmit ((canTransmit_timer_tick hruns).trans (canTransmit_of_atRest hrest hdrain q)),
        timer_tick_of_no_expiry hruns, hk]
    · exact (congrArg (fun u : State => u.lock n) hframe :).trans (lock_ticked s n)
    · exact (congrArg (fun v : State => { v with locks := u.locks, ports := u.ports }) hframe :)
  · rcases hnone with hlt | htimer
    · simp [State.tickTaken, tickDue_of_lt hlt]
    · simp [Timer.expiresNext, htimer]

end Sys2Proof.Machine
end

section
/-! PROOFS. FENCE at a port whose engine is ready to take it, and the idle test of a fence (R154, R166, R167; log 10). -/

namespace Sys2Proof.Machine

/-! ### The idle test -/

/-- A port is idle for a fence when it is DOWN, or ACTIVE with its engine IDLE and nothing left to send (R154, R167). -/
theorem fenceIdle_iff (r : PortRec) :
    r.fenceIdle = true ↔
      r.state = .down
        ∨ (r.state = .active ∧ r.engine.state = .idle ∧ r.completionQueue = [] ∧ r.dataSlot = none ∧ r.transmitter = none) := by
  simp only [PortRec.fenceIdle, PortRec.idleReport, Bool.or_eq_true, Bool.and_eq_true, beq_iff_eq, List.isEmpty_iff,
    Option.isNone_iff_eq_none, and_assoc]

section
variable {s : State} {owner : Port} {tag : Tag} {set : BitVec 8} (h : s.fence = .pending owner tag set)
include h

/-- A PENDING fence is met when every port of its set is idle (R167). -/
theorem fenceMet_pending_iff : s.fenceMet = true ↔ ∀ q : Port, set.getLsbD q.val = true → (s.port q).fenceIdle = true := by
  simp only [State.fenceMet, h, List.all_eq_true, Bool.or_eq_true, Bool.not_eq_true', inSet]
  refine ⟨fun hall q hq => (hall q (mem_allPorts q)).resolve_left (by simp [hq]), fun hall q _ => ?_⟩
  cases hq : set.getLsbD q.val with
  | false => exact .inl rfl
  | true => exact .inr (hall q hq)

/-- A PENDING fence that is met is told to its owner and HELD (R167). -/
theorem fenceTest_of_met (hmet : s.fenceMet = true) :
    s.fenceTest = ({ s with fence := .held owner tag set } : State).addRecord owner (.fenceDone tag .idle) := by
  rcases fenceTest_cases s with ⟨hunmet, _⟩ | ⟨owner', tag', set', hfence, htold⟩
  · rw [hmet] at hunmet
    cases hunmet
  · rw [h] at hfence
    cases hfence
    exact htold

end

/-- A fence that is not PENDING is not met. -/
theorem fenceMet_of_not_pending {s : State} (h : ∀ owner tag set, s.fence ≠ .pending owner tag set) : s.fenceMet = false := by
  unfold State.fenceMet
  split
  · exact absurd ‹_› (h _ _ _)
  · rfl
  · rfl

/-! ### FENCE -/

section
variable {s : State} {p : Port} {set : BitVec 8} (tag : Tag)

theorem takeFence_of_empty (h : set = 0) : s.takeFence p tag set = s.replyStatus p tag .malformed := if_pos h

/-- A set with the requesting port (R166). -/
theorem takeFence_of_own (h : set.getLsbD p.val = true) : s.takeFence p tag set = s.replyStatus p tag .notPermitted := by
  have hsome : set ≠ 0 := by
    rintro rfl
    simp at h
  rw [State.takeFence, if_neg hsome, inSet, if_pos h]

section
variable (hsome : set ≠ 0) (hother : set.getLsbD p.val = false)
include hsome hother

theorem takeFence_of_fence (h : s.fence ≠ .none) : s.takeFence p tag set = s.replyStatus p tag .busy := by
  rw [State.takeFence, if_neg hsome, inSet, if_neg (ne_true_of_eq_false hother), if_pos h]

theorem takeFence_of_none (h : s.fence = .none) :
    s.takeFence p tag set =
      (({ s with fence := .pending p tag set } : State).mapPorts fun q r => { r with fenced := r.fenced || inSet set q }).replyStatus p tag .ok := by
  rw [State.takeFence, if_neg hsome, inSet, if_neg (ne_true_of_eq_false hother), if_neg (not_not.2 h)]

end

/-- The FENCE of a ready port is taken at once. -/
theorem exec_fence (h : s.Ready p) (hcls : (s.port p).cls = .administrative) :
    exec (.fence p tag set) s =
      .next (((s.modPort p fun x => x.engaged ⟨0x39, tag, [set]⟩).takeFence p tag set).housekeep.dispatchWork) :=
  exec_request (c := .fence p tag set) (ops := .fence set) h rfl (by decide : 1 ≤ Config.payloadLimit) rfl (.inr hcls)

/-- The part after a FENCE is taken, with its DONE record added: the ports of the set fenced, the record PENDING (R166). -/
def State.fencing (s : State) (p : Port) (tag : Tag) (set : BitVec 8) : State :=
  (({ s with fence := .pending p tag set } : State).mapPorts fun q r => { r with fenced := r.fenced || set.getLsbD q.val }).replied p tag .ok

/-- A change of one port's record goes over a change of all that it commutes with. -/
theorem mapPorts_modPort (s : State) (p : Port) {f : PortRec → PortRec} {g : Port → PortRec → PortRec}
    (h : g p (f (s.port p)) = f (g p (s.port p))) : (s.modPort p f).mapPorts g = (s.mapPorts g).modPort p f :=
  eq_of_butPorts rfl fun q => by
    rw [port_mapPorts, port_modPort, port_modPort, port_mapPorts]
    split
    · subst_vars
      exact h
    · rfl

/-- The taking of a FENCE fences ports and answers; the order of the two does not show. -/
theorem takeFence_engaged (hsome : set ≠ 0) (hother : set.getLsbD p.val = false) (hfence : s.fence = .none)
    (hqueue : (s.port p).requestQueue = []) (r : Request) : (s.modPort p fun x => x.engaged r).takeFence p tag set = s.fencing p tag set := by
  rw [takeFence_of_none (s := s.modPort p fun x => x.engaged r) tag hsome hother hfence]
  generalize hfenced : ({ s with fence := .pending p tag set } : State) = t
  have hqueue : ((t.mapPorts fun q r => { r with fenced := r.fenced || inSet set q }).port p).requestQueue = [] := by
    rw [port_mapPorts, ← hfenced]
    exact hqueue
  have hengaged : ({ s.modPort p (fun x => x.engaged r) with fence := .pending p tag set } : State) = t.modPort p fun x => x.engaged r := by
    rw [← hfenced]
    rfl
  rw [hengaged, mapPorts_modPort t p, State.replyStatus, modPort_modPort, State.modPort, replied_engaged hqueue, State.fencing, hfenced]
  · rfl
  · rfl

end

/-- Settles O26: the outcomes of FENCE by the tests that come before them, the taking with what follows it, and the idle test by its three cases. -/
theorem fenceAndIdleTest : Obligations.FenceAndIdleTest := by
  refine ⟨fun s p tag set hready hcls => ?_, fun s => ⟨fun owner tag set hfence => ⟨fun hidle => ?_, fun q hq hup hbusy => ?_⟩, fun hnone =>
    fenceTest_of_unmet (fenceMet_of_not_pending hnone)⟩⟩
  · obtain ⟨⟨_, hdrain, hrest, hqueue⟩, _⟩ := id hready
    rw [exec_fence tag hready hcls]
    refine ⟨fun hempty => ?_, fun hown => ?_, fun hsome hother hfence => ?_, fun hsome hother hfence => ?_⟩
    · rw [takeFence_of_empty tag hempty, replyStatus_settled hready]
    · rw [takeFence_of_own tag hown, replyStatus_settled hready]
    · rw [takeFence_of_fence (s := s.modPort p _) tag hsome hother hfence, replyStatus_settled hready]
    · have hstirs : StirsFence s (s.fencing p tag set) := ⟨hrest, hdrain, rfl, fun q => by
        rw [State.fencing, State.replied, port_modPort]
        split
        · rw [state_replied, port_mapPorts]
          rfl
        · rw [port_mapPorts]
          rfl⟩
      rw [takeFence_engaged tag hsome hother hfence (hqueue p), hstirs.dispatchWork]
      rfl
  · exact fenceTest_of_met hfence ((fenceMet_pending_iff hfence).2 fun q hq => (fenceIdle_iff _).2 (hidle q hq))
  · refine fenceTest_of_unmet ?_
    rw [← Bool.not_eq_true, fenceMet_pending_iff hfence]
    intro hmet
    rcases (fenceIdle_iff _).1 (hmet q hq) with hdown | ⟨hactive, hengine, hrecords, hslot, hfree⟩
    · exact hup hdown
    · simp [hactive, hengine, hrecords, hslot, hfree] at hbusy

end Sys2Proof.Machine
end

section
/-! PROOFS. SET_PORT at a port whose engine is ready to take it: the class law, and the parameters replaced before the test of the batch (R136, R138, R163, R164; log 10). -/

namespace Sys2Proof.Machine

/-! ### Operands -/

theorem readOperands_setPort (tag : Tag) (port cls c h : Byte) (t : BitVec 16) :
    readOperands ⟨0x38, tag, [port, cls, c, h] ++ beBytes 2 t.toNat⟩ = some (.setPort port cls c h t) := by
  show some (Operands.setPort port cls c h (.ofNat 16 (beNat (beBytes 2 t.toNat)))) = _
  rw [ofNat_beNat_beBytes_two]

/-- A code above 1 names no class (R191). -/
theorem classOfCode_eq_none {b : Byte} (h : 1 < b.toNat) : classOfCode b = none := by
  unfold classOfCode
  split
  · omega
  · omega
  · rfl

theorem byteIndex_port {b : Byte} {n : Port} (h : b.toNat = n.val) : byteIndex b 8 = some n := by
  simp [byteIndex, h]

theorem byteIndex_port_eq_none {b : Byte} (h : 7 < b.toNat) : byteIndex b 8 = none := dif_neg (by omega)

theorem otherAdministrative_iff (s : State) (n : Port) : s.otherAdministrative n = true ↔ ∃ q : Port, q ≠ n ∧ (s.port q).cls = .administrative := by
  simp [State.otherAdministrative, List.any_eq_true, mem_allPorts]

/-! ### The taking -/

section
variable {s : State} {p : Port} (tag : Tag) {port cls c h : Byte} {t : BitVec 16}

theorem takeSetPort_of_malformed
    (hbad : 7 < port.toNat ∨ 1 < cls.toNat ∨ 16 < c.toNat ∨ 16 < h.toNat ∨ 1023 < t.toNat) :
    s.takeSetPort p tag port cls c h t = s.replyStatus p tag .malformed := by
  unfold State.takeSetPort
  split
  · rename_i hport hcls
    refine if_pos ?_
    have hport : ¬7 < port.toNat := fun hlong => by simp [byteIndex_port_eq_none hlong] at hport
    have hcls : ¬1 < cls.toNat := fun hlong => by simp [classOfCode_eq_none hlong] at hcls
    simp only [Bool.or_eq_true, decide_eq_true_eq]
    omega
  · rfl

section
variable {n : Port} {k : PortClass} (hport : port.toNat = n.val) (hcls : classOfCode cls = some k)
  (hc : c.toNat ≤ 16) (hh : h.toNat ≤ 16) (ht : t.toNat ≤ 1023)
include hport hcls hc hh ht

theorem takeSetPort_of_range :
    s.takeSetPort p tag port cls c h t =
      if k = .user && !s.otherAdministrative n then s.replyStatus p tag .notPermitted
      else (s.modPort n fun r =>
        { r with cls := k, countThreshold := c.toNat, heldThreshold := h.toNat, tickInterval := t.toNat }).replyStatus p tag .ok := by
  have hrange : ¬(c.toNat > 16 || h.toNat > 16 || t.toNat > 1023) = true := by
    simp only [Bool.or_eq_true, decide_eq_true_eq]
    omega
  simp only [State.takeSetPort, byteIndex_port hport, hcls, if_neg hrange]

/-- Taking the last ADMINISTRATIVE class away (R163). -/
theorem takeSetPort_of_last (hk : k = .user) (hlast : ∀ q : Port, q ≠ n → (s.port q).cls = .user) :
    s.takeSetPort p tag port cls c h t = s.replyStatus p tag .notPermitted := by
  have hnone : s.otherAdministrative n = false := by
    rw [← Bool.not_eq_true, otherAdministrative_iff]
    rintro ⟨q, hq, hadmin⟩
    rw [hlast q hq] at hadmin
    cases hadmin
  rw [takeSetPort_of_range tag hport hcls hc hh ht, hnone, hk]
  rfl

/-- A class that leaves a port ADMINISTRATIVE (R163, R164). -/
theorem takeSetPort_of_lawful (hlawful : k = .administrative ∨ ∃ q : Port, q ≠ n ∧ (s.port q).cls = .administrative) :
    s.takeSetPort p tag port cls c h t =
      (s.modPort n fun r =>
        { r with cls := k, countThreshold := c.toNat, heldThreshold := h.toNat, tickInterval := t.toNat }).replyStatus p tag .ok := by
  rw [takeSetPort_of_range tag hport hcls hc hh ht]
  refine if_neg ?_
  rw [Bool.and_eq_true, decide_eq_true_eq, Bool.not_eq_true']
  rintro ⟨huser, hnone⟩
  rw [← otherAdministrative_iff, huser, hnone] at hlawful
  simp at hlawful

end

/-- The SET_PORT of a ready port is taken at once. -/
theorem exec_setPort (hready : s.Ready p) (hadmin : (s.port p).cls = .administrative) :
    exec (.setPort p tag port cls c h t) s =
      .next (((s.modPort p fun x => x.engaged ⟨0x38, tag, [port, cls, c, h] ++ beBytes 2 t.toNat⟩).takeSetPort p tag port cls c h
        t).housekeep.dispatchWork) :=
  exec_request (c := .setPort p tag port cls c h t) (r := ⟨0x38, tag, [port, cls, c, h] ++ beBytes 2 t.toNat⟩)
    (ops := .setPort port cls c h t) hready rfl (by simp [beBytes, Config.payloadLimit]) (readOperands_setPort tag port cls c h t)
    (.inr hadmin)

end

/-! ### What follows -/

/-- A transmitter that has chosen has nothing more to choose (R148). -/
theorem report_report (r : PortRec) : r.report.report = r.report := PortRec.report_of_not_canTransmit (canTransmit_report r)

section
variable {s : State} {p : Port} (n : Port) (k : PortClass) (c h t : Nat)

/-- A port's record with a new class and new coalescing parameters (R164). -/
def PortRec.withParameters (k : PortClass) (c h t : Nat) (r : PortRec) : PortRec :=
  { r with cls := k, countThreshold := c, heldThreshold := h, tickInterval := t }

/-- New parameters leave a port's state, its queue of requests and its idleness for a fence. -/
theorem withParameters_keeps (q : Port) :
    ((s.modPort n (.withParameters k c h t)).port q).state = (s.port q).state
      ∧ ((s.modPort n (.withParameters k c h t)).port q).requestQueue = (s.port q).requestQueue
      ∧ ((s.modPort n (.withParameters k c h t)).port q).fenceIdle = (s.port q).fenceIdle := by
  rw [port_modPort]
  split <;> exact ⟨rfl, rfl, rfl⟩

/-- The taking of a SET_PORT replaces the parameters and answers; the order of the two does not show, be the named port its own or not. -/
theorem withParameters_replied (hqueue : (s.port p).requestQueue = []) (r : Request) (tag : Tag) :
    ((s.modPort p fun x => x.engaged r).modPort n (.withParameters k c h t)).replyStatus p tag .ok =
      (s.modPort n (.withParameters k c h t)).modPort p fun x => x.replied tag .ok := by
  have hcomm : (s.modPort p fun x => x.engaged r).modPort n (.withParameters k c h t) =
      (s.modPort n (.withParameters k c h t)).modPort p fun x => x.engaged r := by
    by_cases hp : p = n
    · subst hp
      rw [modPort_modPort, modPort_modPort]
      rfl
    · exact modPort_comm hp s _ _
  obtain ⟨_, hrequests, _⟩ := withParameters_keeps (s := s) n k c h t p
  rw [hcomm, State.replyStatus, modPort_modPort]
  exact modPort_congr _ p (replied_engaged (hrequests.trans hqueue) r tag .ok none)

/-- New parameters at the taking of port p's request: its DONE record, then the choices of both transmitters, or of the one (R138, R148, R164). -/
theorem withParameters_settled (hready : s.Ready p) (r : Request) (tag : Tag) :
    (((s.modPort p fun x => x.engaged r).modPort n (.withParameters k c h t)).replyStatus p tag .ok).housekeep.dispatchWork =
      ((s.modPort n (.withParameters k c h t)).answered p tag .ok).modPort n PortRec.report := by
  obtain ⟨⟨_, hdrain, hrest, hqueue⟩, hactive, _⟩ := hready
  have hkeeps := withParameters_keeps (s := s) n k c h t
  have hothers : ∀ q, n ≠ q → (s.modPort n (.withParameters k c h t)).port q = s.port q := fun q hq => port_modPort_of_ne s hq _
  rw [withParameters_replied n k c h t (hqueue p)]
  generalize hu : s.modPort n (.withParameters k c h t) = u at hkeeps hothers ⊢
  have hstirs : StirsPorts s (u.modPort p fun x => x.replied tag .ok) := by
    refine ⟨hrest, hdrain, by rw [← hu]; rfl, fun q => ?_, fun q => ?_⟩ <;> obtain ⟨hstate, _, hidle⟩ := hkeeps q <;> rw [port_modPort]
    · split
      · rw [state_replied, hstate]
      · exact hstate
    · split
      · subst_vars
        rw [fenceIdle_replied (hstate.trans hactive)]
        exact nofun
      · rw [hidle]
        exact id
  rw [hstirs.dispatchWork]
  refine eq_of_butPorts (reportAll_keeps _) fun q => ?_
  rw [port_reportAll hstirs.draining, State.answered, port_modPort, port_modPort, port_modPort]
  by_cases hp : p = q
  · subst hp
    rw [if_pos rfl, if_pos rfl, report_report, ite_self]
  · rw [if_neg hp, if_neg hp]
    split
    · rfl
    · rw [hothers q ‹_›, PortRec.report_of_not_canTransmit (canTransmit_of_atRest hrest hdrain q)]

end

/-- Settles O25: the outcomes of SET_PORT by the tests that come before them, and the parameters replaced with what follows. -/
theorem setPortReplacesTheParameters : Obligations.SetPortReplacesTheParameters := by
  intro s p tag port cls c h t hready hadmin
  have hclass : ∀ (r : Request) (q : Port), ((s.modPort p fun x => x.engaged r).port q).cls = (s.port q).cls := fun r q => by
    rw [port_modPort]
    split <;> rfl
  rw [exec_setPort tag hready hadmin]
  refine ⟨fun hbad => ?_, fun n hport hc hh ht => ⟨fun hcls hlast => ?_, fun k hcls hlawful => ?_, rfl, rfl⟩⟩
  · rw [takeSetPort_of_malformed tag hbad, replyStatus_settled hready]
  · rw [takeSetPort_of_last tag hport (by rw [hcls]; rfl) hc hh ht rfl fun q hq => (hclass _ q).trans (hlast q hq), replyStatus_settled hready]
  · rw [takeSetPort_of_lawful tag hport hcls hc hh ht (hlawful.imp id fun ⟨q, hq, hother⟩ => ⟨q, hq, (hclass _ q).trans hother⟩)]
    exact congrArg _ (withParameters_settled n k c.toNat h.toNat t.toNat hready _ tag)

end Sys2Proof.Machine
end
